-- ==== Sys2Proof/Word.lean ====
section
/-! DEFINITION. The two word types of the hardware: a byte (registers, memory cells) and a 16-bit word (pc and CPU
addresses), rules R10 and R12 of spec/00_scope.md. -/

namespace Sys2Proof

/-- An 8-bit value: a register, a memory cell, an operand byte (R10). -/
abbrev Byte := BitVec 8

/-- A 16-bit value: the program counter or a CPU address (R10). -/
abbrev Word := BitVec 16

/-- A 14-bit PPU address (R36, R38). -/
abbrev PpuAddr := BitVec 14

end Sys2Proof
end

