-- ==== Sys2Proof/Machine/Bits.lean ====
section
/-! DEFINITION. Byte order, zero and sign extension, and the page test (R12, R50, R65 of spec/). -/

namespace Sys2Proof

/-- `w[15:8]`, the page number of an address (R12, R17). -/
def highByte (w : Word) : Byte := w.extractLsb' 8 8

/-- `w[7:0]` (R12). -/
def lowByte (w : Word) : Byte := w.extractLsb' 0 8

/-- `(hi << 8) | lo`, the 16-bit value of two bytes, R12. -/
def joinBytes (hi lo : Byte) : Word := hi ++ lo

/-- `zext_16(b)`, R12. -/
def zeroExtend16 (b : Byte) : Word := b.zeroExtend 16

/-- `sext_16(b)`, R12: b if b < 128, else b + 0xFF00. -/
def signExtend16 (b : Byte) : Word := b.signExtend 16

/-- Two addresses lie in different pages: their high bytes differ (R16, R107). -/
def pageDiffers (v w : Word) : Bool := highByte v != highByte w

end Sys2Proof
end

