-- ==== Sys2Proof/Config.lean ====
section
/-! DEFINITION. What an implementation fixes: the named parameters of rule R11 of spec/00_scope.md with the defaults
the spec chose, and the cartridge record of rule R9. -/

namespace Sys2Proof

/-- `INVALID_ACCESS_POLICY` (R11, R62, D7). -/
inductive AccessPolicy where
  /-- The reference behaviour: a violating access ends the step in a fault. -/
  | fatal
  /-- The permissive host: a violating write is discarded, a violating read gives 0x00. -/
  | ignore
  deriving DecidableEq, Repr

/-- The named parameters of R11. A claim that depends on a value says so in a hypothesis. -/
structure Params where
  /-- `STACK_BASE`, D1. -/
  stackBase : Word
  /-- `VEC_NMI`, D2. -/
  vecNmi : Word
  /-- `VEC_RESET`, D2. -/
  vecReset : Word
  /-- `VEC_BRK`, D2. -/
  vecBrk : Word
  /-- `PRG_BASE`, D4. -/
  prgBase : Word
  /-- `NMI_CYCLES`, D11. -/
  nmiCycles : Nat
  /-- `BRK_CYCLES`, D11. -/
  brkCycles : Nat
  /-- `RTI_PC_ADJUST`, 0 or 1, D10. -/
  rtiPcAdjust : Fin 2
  /-- `INVALID_ACCESS_POLICY`, D7. -/
  invalidAccess : AccessPolicy
  /-- `UNMAPPED_READ_VALUE`, D6. -/
  unmappedRead : Byte
  /-- `XAA_MAGIC`, D25. -/
  xaaMagic : Byte
  /-- `LXA_MAGIC`, D26. -/
  lxaMagic : Byte
  deriving DecidableEq, Repr

/-- The defaults of R11's table. -/
def Params.standard : Params where
  stackBase := 0x0100#16
  vecNmi := 0xFFFA#16
  vecReset := 0xFFFC#16
  vecBrk := 0xFFFE#16
  prgBase := 0x8000#16
  nmiCycles := 7
  brkCycles := 0
  rtiPcAdjust := 0
  invalidAccess := .fatal
  unmappedRead := 0x00#8
  xaaMagic := 0xFF#8
  lxaMagic := 0xFF#8

/-- `MIRRORING` as a cartridge names it (R9). -/
inductive Mirroring where
  | horizontal
  | vertical
  | fourScreen
  deriving DecidableEq, Repr

/-- The cartridge record the host supplies (R9): the two ROMs as plain bytes, the mapper number and the mirroring. -/
structure Cartridge where
  prgRom : List Byte
  chrRom : List Byte
  mapper : Byte
  mirroring : Mirroring
  deriving DecidableEq, Repr

/-- The power-on contents of the four memories, open in the spec (`INIT_RAM`, `INIT_VRAM`, `INIT_OAM`,
`INIT_PALETTE`; R11, R381, D20). -/
structure InitMemories where
  ram : Vector Byte 2048
  vram : Vector Byte 2048
  oam : Vector Byte 256
  pal : Vector Byte 32
  deriving DecidableEq, Repr

end Sys2Proof
end

