-- ==== Sys2Proof/Syntax.lean ====
section
/-! DEFINITION. Syntax of the instruction set: the 13 addressing modes (R91, R100 to R112), the 76 mnemonics (R95, R96)
and `Instr`, one constructor for each of the 256 rows of spec/opcode_table.json. -/

namespace Sys2Proof

/-- The 13 addressing modes of R91. -/
inductive Mode where
  | implied
  | accumulator
  | immediate
  | zeroPage
  | zeroPageX
  | zeroPageY
  | relative
  | indirectX
  | indirectY
  | absolute
  | absoluteX
  | absoluteY
  | indirect
  deriving DecidableEq, Repr

/-- The eight addressing modes that name a memory operand, each with its operand bytes (R103 to R108, R110, R111). -/
inductive MemForm where
  | zeroPage (zp : Byte)
  | zeroPageX (zp : Byte)
  | zeroPageY (zp : Byte)
  | absolute (addr : Word)
  | absoluteX (addr : Word)
  | absoluteY (addr : Word)
  | indirectX (zp : Byte)
  | indirectY (zp : Byte)
  deriving DecidableEq, Repr

/-- An instruction's operand: its addressing mode with the operand bytes that follow the opcode (R91). -/
inductive Operand where
  | implied
  | accumulator
  | immediate (imm : Byte)
  | memory (form : MemForm)
  | indirect (ptr : Word)
  | relative (rel : Byte)
  deriving DecidableEq, Repr

/-- The addressing mode of a memory operand. -/
def MemForm.mode : MemForm → Mode
  | .zeroPage _ => .zeroPage
  | .zeroPageX _ => .zeroPageX
  | .zeroPageY _ => .zeroPageY
  | .absolute _ => .absolute
  | .absoluteX _ => .absoluteX
  | .absoluteY _ => .absoluteY
  | .indirectX _ => .indirectX
  | .indirectY _ => .indirectY

/-- The addressing mode of an operand. -/
def Operand.mode : Operand → Mode
  | .implied => .implied
  | .accumulator => .accumulator
  | .immediate _ => .immediate
  | .memory form => form.mode
  | .indirect _ => .indirect
  | .relative _ => .relative

/-- The instruction length of an addressing mode, R91. -/
def Mode.length : Mode → Nat
  | .implied => 1
  | .accumulator => 1
  | .immediate => 2
  | .zeroPage => 2
  | .zeroPageX => 2
  | .zeroPageY => 2
  | .relative => 2
  | .indirectX => 2
  | .indirectY => 2
  | .absolute => 3
  | .absoluteX => 3
  | .absoluteY => 3
  | .indirect => 3

/-- The 76 mnemonics of R95 and R96, in the order of the instruction files 40 to 45. -/
inductive Mnemonic where
  | lda
  | ldx
  | ldy
  | sta
  | stx
  | sty
  | tax
  | tay
  | txa
  | tya
  | tsx
  | txs
  | adc
  | sbc
  | cmp
  | cpx
  | cpy
  | and
  | ora
  | eor
  | bit
  | inc
  | dec
  | inx
  | iny
  | dex
  | dey
  | asl
  | lsr
  | rol
  | ror
  | jmp
  | jsr
  | rts
  | bcc
  | bcs
  | beq
  | bne
  | bmi
  | bpl
  | bvc
  | bvs
  | nop
  | brk
  | rti
  | pha
  | pla
  | php
  | plp
  | clc
  | sec
  | cli
  | sei
  | cld
  | sed
  | clv
  | slo
  | rla
  | sre
  | rra
  | dcp
  | isb
  | sax
  | lax
  | las
  | anc
  | alr
  | arr
  | axs
  | xaa
  | lxa
  | ahx
  | shy
  | shx
  | tas
  | jam
  deriving DecidableEq, Repr

/-- The instructions: one constructor for each row of spec/opcode_table.json, named by the row's mnemonic and mode
(and by its opcode byte where one mnemonic has several rows of one mode, or where an official row has the plain name),
with the row's operand as its field. -/
inductive Instr where
  | ldaIndX (zp : Byte)
  | ldaZp (zp : Byte)
  | ldaImm (imm : Byte)
  | ldaAbs (addr : Word)
  | ldaIndY (zp : Byte)
  | ldaZpX (zp : Byte)
  | ldaAbsY (addr : Word)
  | ldaAbsX (addr : Word)
  | ldxImm (imm : Byte)
  | ldxZp (zp : Byte)
  | ldxAbs (addr : Word)
  | ldxZpY (zp : Byte)
  | ldxAbsY (addr : Word)
  | ldyImm (imm : Byte)
  | ldyZp (zp : Byte)
  | ldyAbs (addr : Word)
  | ldyZpX (zp : Byte)
  | ldyAbsX (addr : Word)
  | staIndX (zp : Byte)
  | staZp (zp : Byte)
  | staAbs (addr : Word)
  | staIndY (zp : Byte)
  | staZpX (zp : Byte)
  | staAbsY (addr : Word)
  | staAbsX (addr : Word)
  | stxZp (zp : Byte)
  | stxAbs (addr : Word)
  | stxZpY (zp : Byte)
  | styZp (zp : Byte)
  | styAbs (addr : Word)
  | styZpX (zp : Byte)
  | tax
  | tay
  | txa
  | tya
  | tsx
  | txs
  | adcIndX (zp : Byte)
  | adcZp (zp : Byte)
  | adcImm (imm : Byte)
  | adcAbs (addr : Word)
  | adcIndY (zp : Byte)
  | adcZpX (zp : Byte)
  | adcAbsY (addr : Word)
  | adcAbsX (addr : Word)
  | sbcIndX (zp : Byte)
  | sbcZp (zp : Byte)
  | sbcImm (imm : Byte)
  | sbcImmEB (imm : Byte)
  | sbcAbs (addr : Word)
  | sbcIndY (zp : Byte)
  | sbcZpX (zp : Byte)
  | sbcAbsY (addr : Word)
  | sbcAbsX (addr : Word)
  | cmpIndX (zp : Byte)
  | cmpZp (zp : Byte)
  | cmpImm (imm : Byte)
  | cmpAbs (addr : Word)
  | cmpIndY (zp : Byte)
  | cmpZpX (zp : Byte)
  | cmpAbsY (addr : Word)
  | cmpAbsX (addr : Word)
  | cpxImm (imm : Byte)
  | cpxZp (zp : Byte)
  | cpxAbs (addr : Word)
  | cpyImm (imm : Byte)
  | cpyZp (zp : Byte)
  | cpyAbs (addr : Word)
  | andIndX (zp : Byte)
  | andZp (zp : Byte)
  | andImm (imm : Byte)
  | andAbs (addr : Word)
  | andIndY (zp : Byte)
  | andZpX (zp : Byte)
  | andAbsY (addr : Word)
  | andAbsX (addr : Word)
  | oraIndX (zp : Byte)
  | oraZp (zp : Byte)
  | oraImm (imm : Byte)
  | oraAbs (addr : Word)
  | oraIndY (zp : Byte)
  | oraZpX (zp : Byte)
  | oraAbsY (addr : Word)
  | oraAbsX (addr : Word)
  | eorIndX (zp : Byte)
  | eorZp (zp : Byte)
  | eorImm (imm : Byte)
  | eorAbs (addr : Word)
  | eorIndY (zp : Byte)
  | eorZpX (zp : Byte)
  | eorAbsY (addr : Word)
  | eorAbsX (addr : Word)
  | bitZp (zp : Byte)
  | bitAbs (addr : Word)
  | incZp (zp : Byte)
  | incAbs (addr : Word)
  | incZpX (zp : Byte)
  | incAbsX (addr : Word)
  | decZp (zp : Byte)
  | decAbs (addr : Word)
  | decZpX (zp : Byte)
  | decAbsX (addr : Word)
  | inx
  | iny
  | dex
  | dey
  | aslZp (zp : Byte)
  | aslAcc
  | aslAbs (addr : Word)
  | aslZpX (zp : Byte)
  | aslAbsX (addr : Word)
  | lsrZp (zp : Byte)
  | lsrAcc
  | lsrAbs (addr : Word)
  | lsrZpX (zp : Byte)
  | lsrAbsX (addr : Word)
  | rolZp (zp : Byte)
  | rolAcc
  | rolAbs (addr : Word)
  | rolZpX (zp : Byte)
  | rolAbsX (addr : Word)
  | rorZp (zp : Byte)
  | rorAcc
  | rorAbs (addr : Word)
  | rorZpX (zp : Byte)
  | rorAbsX (addr : Word)
  | jmpAbs (addr : Word)
  | jmpInd (ptr : Word)
  | jsr (addr : Word)
  | rts
  | bcc (rel : Byte)
  | bcs (rel : Byte)
  | beq (rel : Byte)
  | bne (rel : Byte)
  | bmi (rel : Byte)
  | bpl (rel : Byte)
  | bvc (rel : Byte)
  | bvs (rel : Byte)
  | nopZp04 (zp : Byte)
  | nopAbs0C (addr : Word)
  | nopZpX14 (zp : Byte)
  | nopImp1A
  | nopAbsX1C (addr : Word)
  | nopZpX34 (zp : Byte)
  | nopImp3A
  | nopAbsX3C (addr : Word)
  | nopZp44 (zp : Byte)
  | nopZpX54 (zp : Byte)
  | nopImp5A
  | nopAbsX5C (addr : Word)
  | nopZp64 (zp : Byte)
  | nopZpX74 (zp : Byte)
  | nopImp7A
  | nopAbsX7C (addr : Word)
  | nopImm80 (imm : Byte)
  | nopImm82 (imm : Byte)
  | nopImm89 (imm : Byte)
  | nopImmC2 (imm : Byte)
  | nopZpXD4 (zp : Byte)
  | nopImpDA
  | nopAbsXDC (addr : Word)
  | nopImmE2 (imm : Byte)
  | nop
  | nopZpXF4 (zp : Byte)
  | nopImpFA
  | nopAbsXFC (addr : Word)
  | brk
  | rti
  | pha
  | pla
  | php
  | plp
  | clc
  | sec
  | cli
  | sei
  | cld
  | sed
  | clv
  | sloIndX (zp : Byte)
  | sloZp (zp : Byte)
  | sloAbs (addr : Word)
  | sloIndY (zp : Byte)
  | sloZpX (zp : Byte)
  | sloAbsY (addr : Word)
  | sloAbsX (addr : Word)
  | rlaIndX (zp : Byte)
  | rlaZp (zp : Byte)
  | rlaAbs (addr : Word)
  | rlaIndY (zp : Byte)
  | rlaZpX (zp : Byte)
  | rlaAbsY (addr : Word)
  | rlaAbsX (addr : Word)
  | sreIndX (zp : Byte)
  | sreZp (zp : Byte)
  | sreAbs (addr : Word)
  | sreIndY (zp : Byte)
  | sreZpX (zp : Byte)
  | sreAbsY (addr : Word)
  | sreAbsX (addr : Word)
  | rraIndX (zp : Byte)
  | rraZp (zp : Byte)
  | rraAbs (addr : Word)
  | rraIndY (zp : Byte)
  | rraZpX (zp : Byte)
  | rraAbsY (addr : Word)
  | rraAbsX (addr : Word)
  | dcpIndX (zp : Byte)
  | dcpZp (zp : Byte)
  | dcpAbs (addr : Word)
  | dcpIndY (zp : Byte)
  | dcpZpX (zp : Byte)
  | dcpAbsY (addr : Word)
  | dcpAbsX (addr : Word)
  | isbIndX (zp : Byte)
  | isbZp (zp : Byte)
  | isbAbs (addr : Word)
  | isbIndY (zp : Byte)
  | isbZpX (zp : Byte)
  | isbAbsY (addr : Word)
  | isbAbsX (addr : Word)
  | saxIndX (zp : Byte)
  | saxZp (zp : Byte)
  | saxAbs (addr : Word)
  | saxZpY (zp : Byte)
  | laxIndX (zp : Byte)
  | laxZp (zp : Byte)
  | laxAbs (addr : Word)
  | laxIndY (zp : Byte)
  | laxZpY (zp : Byte)
  | laxAbsY (addr : Word)
  | lasAbsY (addr : Word)
  | ancImm0B (imm : Byte)
  | ancImm2B (imm : Byte)
  | alrImm (imm : Byte)
  | arrImm (imm : Byte)
  | axsImm (imm : Byte)
  | xaaImm (imm : Byte)
  | lxaImm (imm : Byte)
  | ahxIndY (zp : Byte)
  | ahxAbsY (addr : Word)
  | shyAbsX (addr : Word)
  | shxAbsY (addr : Word)
  | tasAbsY (addr : Word)
  | jam02
  | jam12
  | jam22
  | jam32
  | jam42
  | jam52
  | jam62
  | jam72
  | jam92
  | jamB2
  | jamD2
  | jamF2
  deriving DecidableEq, Repr

/-- The mnemonic of an instruction's row. -/
def Instr.mnemonic : Instr → Mnemonic
  | .ldaIndX _ => .lda
  | .ldaZp _ => .lda
  | .ldaImm _ => .lda
  | .ldaAbs _ => .lda
  | .ldaIndY _ => .lda
  | .ldaZpX _ => .lda
  | .ldaAbsY _ => .lda
  | .ldaAbsX _ => .lda
  | .ldxImm _ => .ldx
  | .ldxZp _ => .ldx
  | .ldxAbs _ => .ldx
  | .ldxZpY _ => .ldx
  | .ldxAbsY _ => .ldx
  | .ldyImm _ => .ldy
  | .ldyZp _ => .ldy
  | .ldyAbs _ => .ldy
  | .ldyZpX _ => .ldy
  | .ldyAbsX _ => .ldy
  | .staIndX _ => .sta
  | .staZp _ => .sta
  | .staAbs _ => .sta
  | .staIndY _ => .sta
  | .staZpX _ => .sta
  | .staAbsY _ => .sta
  | .staAbsX _ => .sta
  | .stxZp _ => .stx
  | .stxAbs _ => .stx
  | .stxZpY _ => .stx
  | .styZp _ => .sty
  | .styAbs _ => .sty
  | .styZpX _ => .sty
  | .tax => .tax
  | .tay => .tay
  | .txa => .txa
  | .tya => .tya
  | .tsx => .tsx
  | .txs => .txs
  | .adcIndX _ => .adc
  | .adcZp _ => .adc
  | .adcImm _ => .adc
  | .adcAbs _ => .adc
  | .adcIndY _ => .adc
  | .adcZpX _ => .adc
  | .adcAbsY _ => .adc
  | .adcAbsX _ => .adc
  | .sbcIndX _ => .sbc
  | .sbcZp _ => .sbc
  | .sbcImm _ => .sbc
  | .sbcImmEB _ => .sbc
  | .sbcAbs _ => .sbc
  | .sbcIndY _ => .sbc
  | .sbcZpX _ => .sbc
  | .sbcAbsY _ => .sbc
  | .sbcAbsX _ => .sbc
  | .cmpIndX _ => .cmp
  | .cmpZp _ => .cmp
  | .cmpImm _ => .cmp
  | .cmpAbs _ => .cmp
  | .cmpIndY _ => .cmp
  | .cmpZpX _ => .cmp
  | .cmpAbsY _ => .cmp
  | .cmpAbsX _ => .cmp
  | .cpxImm _ => .cpx
  | .cpxZp _ => .cpx
  | .cpxAbs _ => .cpx
  | .cpyImm _ => .cpy
  | .cpyZp _ => .cpy
  | .cpyAbs _ => .cpy
  | .andIndX _ => .and
  | .andZp _ => .and
  | .andImm _ => .and
  | .andAbs _ => .and
  | .andIndY _ => .and
  | .andZpX _ => .and
  | .andAbsY _ => .and
  | .andAbsX _ => .and
  | .oraIndX _ => .ora
  | .oraZp _ => .ora
  | .oraImm _ => .ora
  | .oraAbs _ => .ora
  | .oraIndY _ => .ora
  | .oraZpX _ => .ora
  | .oraAbsY _ => .ora
  | .oraAbsX _ => .ora
  | .eorIndX _ => .eor
  | .eorZp _ => .eor
  | .eorImm _ => .eor
  | .eorAbs _ => .eor
  | .eorIndY _ => .eor
  | .eorZpX _ => .eor
  | .eorAbsY _ => .eor
  | .eorAbsX _ => .eor
  | .bitZp _ => .bit
  | .bitAbs _ => .bit
  | .incZp _ => .inc
  | .incAbs _ => .inc
  | .incZpX _ => .inc
  | .incAbsX _ => .inc
  | .decZp _ => .dec
  | .decAbs _ => .dec
  | .decZpX _ => .dec
  | .decAbsX _ => .dec
  | .inx => .inx
  | .iny => .iny
  | .dex => .dex
  | .dey => .dey
  | .aslZp _ => .asl
  | .aslAcc => .asl
  | .aslAbs _ => .asl
  | .aslZpX _ => .asl
  | .aslAbsX _ => .asl
  | .lsrZp _ => .lsr
  | .lsrAcc => .lsr
  | .lsrAbs _ => .lsr
  | .lsrZpX _ => .lsr
  | .lsrAbsX _ => .lsr
  | .rolZp _ => .rol
  | .rolAcc => .rol
  | .rolAbs _ => .rol
  | .rolZpX _ => .rol
  | .rolAbsX _ => .rol
  | .rorZp _ => .ror
  | .rorAcc => .ror
  | .rorAbs _ => .ror
  | .rorZpX _ => .ror
  | .rorAbsX _ => .ror
  | .jmpAbs _ => .jmp
  | .jmpInd _ => .jmp
  | .jsr _ => .jsr
  | .rts => .rts
  | .bcc _ => .bcc
  | .bcs _ => .bcs
  | .beq _ => .beq
  | .bne _ => .bne
  | .bmi _ => .bmi
  | .bpl _ => .bpl
  | .bvc _ => .bvc
  | .bvs _ => .bvs
  | .nopZp04 _ => .nop
  | .nopAbs0C _ => .nop
  | .nopZpX14 _ => .nop
  | .nopImp1A => .nop
  | .nopAbsX1C _ => .nop
  | .nopZpX34 _ => .nop
  | .nopImp3A => .nop
  | .nopAbsX3C _ => .nop
  | .nopZp44 _ => .nop
  | .nopZpX54 _ => .nop
  | .nopImp5A => .nop
  | .nopAbsX5C _ => .nop
  | .nopZp64 _ => .nop
  | .nopZpX74 _ => .nop
  | .nopImp7A => .nop
  | .nopAbsX7C _ => .nop
  | .nopImm80 _ => .nop
  | .nopImm82 _ => .nop
  | .nopImm89 _ => .nop
  | .nopImmC2 _ => .nop
  | .nopZpXD4 _ => .nop
  | .nopImpDA => .nop
  | .nopAbsXDC _ => .nop
  | .nopImmE2 _ => .nop
  | .nop => .nop
  | .nopZpXF4 _ => .nop
  | .nopImpFA => .nop
  | .nopAbsXFC _ => .nop
  | .brk => .brk
  | .rti => .rti
  | .pha => .pha
  | .pla => .pla
  | .php => .php
  | .plp => .plp
  | .clc => .clc
  | .sec => .sec
  | .cli => .cli
  | .sei => .sei
  | .cld => .cld
  | .sed => .sed
  | .clv => .clv
  | .sloIndX _ => .slo
  | .sloZp _ => .slo
  | .sloAbs _ => .slo
  | .sloIndY _ => .slo
  | .sloZpX _ => .slo
  | .sloAbsY _ => .slo
  | .sloAbsX _ => .slo
  | .rlaIndX _ => .rla
  | .rlaZp _ => .rla
  | .rlaAbs _ => .rla
  | .rlaIndY _ => .rla
  | .rlaZpX _ => .rla
  | .rlaAbsY _ => .rla
  | .rlaAbsX _ => .rla
  | .sreIndX _ => .sre
  | .sreZp _ => .sre
  | .sreAbs _ => .sre
  | .sreIndY _ => .sre
  | .sreZpX _ => .sre
  | .sreAbsY _ => .sre
  | .sreAbsX _ => .sre
  | .rraIndX _ => .rra
  | .rraZp _ => .rra
  | .rraAbs _ => .rra
  | .rraIndY _ => .rra
  | .rraZpX _ => .rra
  | .rraAbsY _ => .rra
  | .rraAbsX _ => .rra
  | .dcpIndX _ => .dcp
  | .dcpZp _ => .dcp
  | .dcpAbs _ => .dcp
  | .dcpIndY _ => .dcp
  | .dcpZpX _ => .dcp
  | .dcpAbsY _ => .dcp
  | .dcpAbsX _ => .dcp
  | .isbIndX _ => .isb
  | .isbZp _ => .isb
  | .isbAbs _ => .isb
  | .isbIndY _ => .isb
  | .isbZpX _ => .isb
  | .isbAbsY _ => .isb
  | .isbAbsX _ => .isb
  | .saxIndX _ => .sax
  | .saxZp _ => .sax
  | .saxAbs _ => .sax
  | .saxZpY _ => .sax
  | .laxIndX _ => .lax
  | .laxZp _ => .lax
  | .laxAbs _ => .lax
  | .laxIndY _ => .lax
  | .laxZpY _ => .lax
  | .laxAbsY _ => .lax
  | .lasAbsY _ => .las
  | .ancImm0B _ => .anc
  | .ancImm2B _ => .anc
  | .alrImm _ => .alr
  | .arrImm _ => .arr
  | .axsImm _ => .axs
  | .xaaImm _ => .xaa
  | .lxaImm _ => .lxa
  | .ahxIndY _ => .ahx
  | .ahxAbsY _ => .ahx
  | .shyAbsX _ => .shy
  | .shxAbsY _ => .shx
  | .tasAbsY _ => .tas
  | .jam02 => .jam
  | .jam12 => .jam
  | .jam22 => .jam
  | .jam32 => .jam
  | .jam42 => .jam
  | .jam52 => .jam
  | .jam62 => .jam
  | .jam72 => .jam
  | .jam92 => .jam
  | .jamB2 => .jam
  | .jamD2 => .jam
  | .jamF2 => .jam

/-- The operand of an instruction: its row's addressing mode with the operand the instruction carries. -/
def Instr.operand : Instr → Operand
  | .ldaIndX zp => .memory (.indirectX zp)
  | .ldaZp zp => .memory (.zeroPage zp)
  | .ldaImm imm => .immediate imm
  | .ldaAbs addr => .memory (.absolute addr)
  | .ldaIndY zp => .memory (.indirectY zp)
  | .ldaZpX zp => .memory (.zeroPageX zp)
  | .ldaAbsY addr => .memory (.absoluteY addr)
  | .ldaAbsX addr => .memory (.absoluteX addr)
  | .ldxImm imm => .immediate imm
  | .ldxZp zp => .memory (.zeroPage zp)
  | .ldxAbs addr => .memory (.absolute addr)
  | .ldxZpY zp => .memory (.zeroPageY zp)
  | .ldxAbsY addr => .memory (.absoluteY addr)
  | .ldyImm imm => .immediate imm
  | .ldyZp zp => .memory (.zeroPage zp)
  | .ldyAbs addr => .memory (.absolute addr)
  | .ldyZpX zp => .memory (.zeroPageX zp)
  | .ldyAbsX addr => .memory (.absoluteX addr)
  | .staIndX zp => .memory (.indirectX zp)
  | .staZp zp => .memory (.zeroPage zp)
  | .staAbs addr => .memory (.absolute addr)
  | .staIndY zp => .memory (.indirectY zp)
  | .staZpX zp => .memory (.zeroPageX zp)
  | .staAbsY addr => .memory (.absoluteY addr)
  | .staAbsX addr => .memory (.absoluteX addr)
  | .stxZp zp => .memory (.zeroPage zp)
  | .stxAbs addr => .memory (.absolute addr)
  | .stxZpY zp => .memory (.zeroPageY zp)
  | .styZp zp => .memory (.zeroPage zp)
  | .styAbs addr => .memory (.absolute addr)
  | .styZpX zp => .memory (.zeroPageX zp)
  | .tax => .implied
  | .tay => .implied
  | .txa => .implied
  | .tya => .implied
  | .tsx => .implied
  | .txs => .implied
  | .adcIndX zp => .memory (.indirectX zp)
  | .adcZp zp => .memory (.zeroPage zp)
  | .adcImm imm => .immediate imm
  | .adcAbs addr => .memory (.absolute addr)
  | .adcIndY zp => .memory (.indirectY zp)
  | .adcZpX zp => .memory (.zeroPageX zp)
  | .adcAbsY addr => .memory (.absoluteY addr)
  | .adcAbsX addr => .memory (.absoluteX addr)
  | .sbcIndX zp => .memory (.indirectX zp)
  | .sbcZp zp => .memory (.zeroPage zp)
  | .sbcImm imm => .immediate imm
  | .sbcImmEB imm => .immediate imm
  | .sbcAbs addr => .memory (.absolute addr)
  | .sbcIndY zp => .memory (.indirectY zp)
  | .sbcZpX zp => .memory (.zeroPageX zp)
  | .sbcAbsY addr => .memory (.absoluteY addr)
  | .sbcAbsX addr => .memory (.absoluteX addr)
  | .cmpIndX zp => .memory (.indirectX zp)
  | .cmpZp zp => .memory (.zeroPage zp)
  | .cmpImm imm => .immediate imm
  | .cmpAbs addr => .memory (.absolute addr)
  | .cmpIndY zp => .memory (.indirectY zp)
  | .cmpZpX zp => .memory (.zeroPageX zp)
  | .cmpAbsY addr => .memory (.absoluteY addr)
  | .cmpAbsX addr => .memory (.absoluteX addr)
  | .cpxImm imm => .immediate imm
  | .cpxZp zp => .memory (.zeroPage zp)
  | .cpxAbs addr => .memory (.absolute addr)
  | .cpyImm imm => .immediate imm
  | .cpyZp zp => .memory (.zeroPage zp)
  | .cpyAbs addr => .memory (.absolute addr)
  | .andIndX zp => .memory (.indirectX zp)
  | .andZp zp => .memory (.zeroPage zp)
  | .andImm imm => .immediate imm
  | .andAbs addr => .memory (.absolute addr)
  | .andIndY zp => .memory (.indirectY zp)
  | .andZpX zp => .memory (.zeroPageX zp)
  | .andAbsY addr => .memory (.absoluteY addr)
  | .andAbsX addr => .memory (.absoluteX addr)
  | .oraIndX zp => .memory (.indirectX zp)
  | .oraZp zp => .memory (.zeroPage zp)
  | .oraImm imm => .immediate imm
  | .oraAbs addr => .memory (.absolute addr)
  | .oraIndY zp => .memory (.indirectY zp)
  | .oraZpX zp => .memory (.zeroPageX zp)
  | .oraAbsY addr => .memory (.absoluteY addr)
  | .oraAbsX addr => .memory (.absoluteX addr)
  | .eorIndX zp => .memory (.indirectX zp)
  | .eorZp zp => .memory (.zeroPage zp)
  | .eorImm imm => .immediate imm
  | .eorAbs addr => .memory (.absolute addr)
  | .eorIndY zp => .memory (.indirectY zp)
  | .eorZpX zp => .memory (.zeroPageX zp)
  | .eorAbsY addr => .memory (.absoluteY addr)
  | .eorAbsX addr => .memory (.absoluteX addr)
  | .bitZp zp => .memory (.zeroPage zp)
  | .bitAbs addr => .memory (.absolute addr)
  | .incZp zp => .memory (.zeroPage zp)
  | .incAbs addr => .memory (.absolute addr)
  | .incZpX zp => .memory (.zeroPageX zp)
  | .incAbsX addr => .memory (.absoluteX addr)
  | .decZp zp => .memory (.zeroPage zp)
  | .decAbs addr => .memory (.absolute addr)
  | .decZpX zp => .memory (.zeroPageX zp)
  | .decAbsX addr => .memory (.absoluteX addr)
  | .inx => .implied
  | .iny => .implied
  | .dex => .implied
  | .dey => .implied
  | .aslZp zp => .memory (.zeroPage zp)
  | .aslAcc => .accumulator
  | .aslAbs addr => .memory (.absolute addr)
  | .aslZpX zp => .memory (.zeroPageX zp)
  | .aslAbsX addr => .memory (.absoluteX addr)
  | .lsrZp zp => .memory (.zeroPage zp)
  | .lsrAcc => .accumulator
  | .lsrAbs addr => .memory (.absolute addr)
  | .lsrZpX zp => .memory (.zeroPageX zp)
  | .lsrAbsX addr => .memory (.absoluteX addr)
  | .rolZp zp => .memory (.zeroPage zp)
  | .rolAcc => .accumulator
  | .rolAbs addr => .memory (.absolute addr)
  | .rolZpX zp => .memory (.zeroPageX zp)
  | .rolAbsX addr => .memory (.absoluteX addr)
  | .rorZp zp => .memory (.zeroPage zp)
  | .rorAcc => .accumulator
  | .rorAbs addr => .memory (.absolute addr)
  | .rorZpX zp => .memory (.zeroPageX zp)
  | .rorAbsX addr => .memory (.absoluteX addr)
  | .jmpAbs addr => .memory (.absolute addr)
  | .jmpInd ptr => .indirect ptr
  | .jsr addr => .memory (.absolute addr)
  | .rts => .implied
  | .bcc rel => .relative rel
  | .bcs rel => .relative rel
  | .beq rel => .relative rel
  | .bne rel => .relative rel
  | .bmi rel => .relative rel
  | .bpl rel => .relative rel
  | .bvc rel => .relative rel
  | .bvs rel => .relative rel
  | .nopZp04 zp => .memory (.zeroPage zp)
  | .nopAbs0C addr => .memory (.absolute addr)
  | .nopZpX14 zp => .memory (.zeroPageX zp)
  | .nopImp1A => .implied
  | .nopAbsX1C addr => .memory (.absoluteX addr)
  | .nopZpX34 zp => .memory (.zeroPageX zp)
  | .nopImp3A => .implied
  | .nopAbsX3C addr => .memory (.absoluteX addr)
  | .nopZp44 zp => .memory (.zeroPage zp)
  | .nopZpX54 zp => .memory (.zeroPageX zp)
  | .nopImp5A => .implied
  | .nopAbsX5C addr => .memory (.absoluteX addr)
  | .nopZp64 zp => .memory (.zeroPage zp)
  | .nopZpX74 zp => .memory (.zeroPageX zp)
  | .nopImp7A => .implied
  | .nopAbsX7C addr => .memory (.absoluteX addr)
  | .nopImm80 imm => .immediate imm
  | .nopImm82 imm => .immediate imm
  | .nopImm89 imm => .immediate imm
  | .nopImmC2 imm => .immediate imm
  | .nopZpXD4 zp => .memory (.zeroPageX zp)
  | .nopImpDA => .implied
  | .nopAbsXDC addr => .memory (.absoluteX addr)
  | .nopImmE2 imm => .immediate imm
  | .nop => .implied
  | .nopZpXF4 zp => .memory (.zeroPageX zp)
  | .nopImpFA => .implied
  | .nopAbsXFC addr => .memory (.absoluteX addr)
  | .brk => .implied
  | .rti => .implied
  | .pha => .implied
  | .pla => .implied
  | .php => .implied
  | .plp => .implied
  | .clc => .implied
  | .sec => .implied
  | .cli => .implied
  | .sei => .implied
  | .cld => .implied
  | .sed => .implied
  | .clv => .implied
  | .sloIndX zp => .memory (.indirectX zp)
  | .sloZp zp => .memory (.zeroPage zp)
  | .sloAbs addr => .memory (.absolute addr)
  | .sloIndY zp => .memory (.indirectY zp)
  | .sloZpX zp => .memory (.zeroPageX zp)
  | .sloAbsY addr => .memory (.absoluteY addr)
  | .sloAbsX addr => .memory (.absoluteX addr)
  | .rlaIndX zp => .memory (.indirectX zp)
  | .rlaZp zp => .memory (.zeroPage zp)
  | .rlaAbs addr => .memory (.absolute addr)
  | .rlaIndY zp => .memory (.indirectY zp)
  | .rlaZpX zp => .memory (.zeroPageX zp)
  | .rlaAbsY addr => .memory (.absoluteY addr)
  | .rlaAbsX addr => .memory (.absoluteX addr)
  | .sreIndX zp => .memory (.indirectX zp)
  | .sreZp zp => .memory (.zeroPage zp)
  | .sreAbs addr => .memory (.absolute addr)
  | .sreIndY zp => .memory (.indirectY zp)
  | .sreZpX zp => .memory (.zeroPageX zp)
  | .sreAbsY addr => .memory (.absoluteY addr)
  | .sreAbsX addr => .memory (.absoluteX addr)
  | .rraIndX zp => .memory (.indirectX zp)
  | .rraZp zp => .memory (.zeroPage zp)
  | .rraAbs addr => .memory (.absolute addr)
  | .rraIndY zp => .memory (.indirectY zp)
  | .rraZpX zp => .memory (.zeroPageX zp)
  | .rraAbsY addr => .memory (.absoluteY addr)
  | .rraAbsX addr => .memory (.absoluteX addr)
  | .dcpIndX zp => .memory (.indirectX zp)
  | .dcpZp zp => .memory (.zeroPage zp)
  | .dcpAbs addr => .memory (.absolute addr)
  | .dcpIndY zp => .memory (.indirectY zp)
  | .dcpZpX zp => .memory (.zeroPageX zp)
  | .dcpAbsY addr => .memory (.absoluteY addr)
  | .dcpAbsX addr => .memory (.absoluteX addr)
  | .isbIndX zp => .memory (.indirectX zp)
  | .isbZp zp => .memory (.zeroPage zp)
  | .isbAbs addr => .memory (.absolute addr)
  | .isbIndY zp => .memory (.indirectY zp)
  | .isbZpX zp => .memory (.zeroPageX zp)
  | .isbAbsY addr => .memory (.absoluteY addr)
  | .isbAbsX addr => .memory (.absoluteX addr)
  | .saxIndX zp => .memory (.indirectX zp)
  | .saxZp zp => .memory (.zeroPage zp)
  | .saxAbs addr => .memory (.absolute addr)
  | .saxZpY zp => .memory (.zeroPageY zp)
  | .laxIndX zp => .memory (.indirectX zp)
  | .laxZp zp => .memory (.zeroPage zp)
  | .laxAbs addr => .memory (.absolute addr)
  | .laxIndY zp => .memory (.indirectY zp)
  | .laxZpY zp => .memory (.zeroPageY zp)
  | .laxAbsY addr => .memory (.absoluteY addr)
  | .lasAbsY addr => .memory (.absoluteY addr)
  | .ancImm0B imm => .immediate imm
  | .ancImm2B imm => .immediate imm
  | .alrImm imm => .immediate imm
  | .arrImm imm => .immediate imm
  | .axsImm imm => .immediate imm
  | .xaaImm imm => .immediate imm
  | .lxaImm imm => .immediate imm
  | .ahxIndY zp => .memory (.indirectY zp)
  | .ahxAbsY addr => .memory (.absoluteY addr)
  | .shyAbsX addr => .memory (.absoluteX addr)
  | .shxAbsY addr => .memory (.absoluteY addr)
  | .tasAbsY addr => .memory (.absoluteY addr)
  | .jam02 => .implied
  | .jam12 => .implied
  | .jam22 => .implied
  | .jam32 => .implied
  | .jam42 => .implied
  | .jam52 => .implied
  | .jam62 => .implied
  | .jam72 => .implied
  | .jam92 => .implied
  | .jamB2 => .implied
  | .jamD2 => .implied
  | .jamF2 => .implied

/-- The addressing mode of an instruction's row. -/
def Instr.mode (i : Instr) : Mode := i.operand.mode

/-- The length of an instruction in bytes, R90 and R91. -/
def Instr.length (i : Instr) : Nat := i.mode.length

end Sys2Proof
end

