-- ==== Sys2Proof/WellFormed.lean ====
section
/-! DEFINITION. Well-formedness: which addressing modes each mnemonic has (the Encodings lines of the instruction rules,
R130 to R262), and which cartridges the model accepts (R9, D19, D29). -/

namespace Sys2Proof

/-- The addressing modes a mnemonic has an encoding in, from the Encodings line of its rule. -/
def Mnemonic.modes : Mnemonic → List Mode
  | .lda => [.indirectX, .zeroPage, .immediate, .absolute, .indirectY, .zeroPageX, .absoluteY, .absoluteX]
  | .ldx => [.immediate, .zeroPage, .absolute, .zeroPageY, .absoluteY]
  | .ldy => [.immediate, .zeroPage, .absolute, .zeroPageX, .absoluteX]
  | .sta => [.indirectX, .zeroPage, .absolute, .indirectY, .zeroPageX, .absoluteY, .absoluteX]
  | .stx => [.zeroPage, .absolute, .zeroPageY]
  | .sty => [.zeroPage, .absolute, .zeroPageX]
  | .tax => [.implied]
  | .tay => [.implied]
  | .txa => [.implied]
  | .tya => [.implied]
  | .tsx => [.implied]
  | .txs => [.implied]
  | .adc => [.indirectX, .zeroPage, .immediate, .absolute, .indirectY, .zeroPageX, .absoluteY, .absoluteX]
  | .sbc => [.indirectX, .zeroPage, .immediate, .absolute, .indirectY, .zeroPageX, .absoluteY, .absoluteX]
  | .cmp => [.indirectX, .zeroPage, .immediate, .absolute, .indirectY, .zeroPageX, .absoluteY, .absoluteX]
  | .cpx => [.immediate, .zeroPage, .absolute]
  | .cpy => [.immediate, .zeroPage, .absolute]
  | .and => [.indirectX, .zeroPage, .immediate, .absolute, .indirectY, .zeroPageX, .absoluteY, .absoluteX]
  | .ora => [.indirectX, .zeroPage, .immediate, .absolute, .indirectY, .zeroPageX, .absoluteY, .absoluteX]
  | .eor => [.indirectX, .zeroPage, .immediate, .absolute, .indirectY, .zeroPageX, .absoluteY, .absoluteX]
  | .bit => [.zeroPage, .absolute]
  | .inc => [.zeroPage, .absolute, .zeroPageX, .absoluteX]
  | .dec => [.zeroPage, .absolute, .zeroPageX, .absoluteX]
  | .inx => [.implied]
  | .iny => [.implied]
  | .dex => [.implied]
  | .dey => [.implied]
  | .asl => [.zeroPage, .accumulator, .absolute, .zeroPageX, .absoluteX]
  | .lsr => [.zeroPage, .accumulator, .absolute, .zeroPageX, .absoluteX]
  | .rol => [.zeroPage, .accumulator, .absolute, .zeroPageX, .absoluteX]
  | .ror => [.zeroPage, .accumulator, .absolute, .zeroPageX, .absoluteX]
  | .jmp => [.absolute, .indirect]
  | .jsr => [.absolute]
  | .rts => [.implied]
  | .bcc => [.relative]
  | .bcs => [.relative]
  | .beq => [.relative]
  | .bne => [.relative]
  | .bmi => [.relative]
  | .bpl => [.relative]
  | .bvc => [.relative]
  | .bvs => [.relative]
  | .nop => [.zeroPage, .absolute, .zeroPageX, .implied, .absoluteX, .immediate]
  | .brk => [.implied]
  | .rti => [.implied]
  | .pha => [.implied]
  | .pla => [.implied]
  | .php => [.implied]
  | .plp => [.implied]
  | .clc => [.implied]
  | .sec => [.implied]
  | .cli => [.implied]
  | .sei => [.implied]
  | .cld => [.implied]
  | .sed => [.implied]
  | .clv => [.implied]
  | .slo => [.indirectX, .zeroPage, .absolute, .indirectY, .zeroPageX, .absoluteY, .absoluteX]
  | .rla => [.indirectX, .zeroPage, .absolute, .indirectY, .zeroPageX, .absoluteY, .absoluteX]
  | .sre => [.indirectX, .zeroPage, .absolute, .indirectY, .zeroPageX, .absoluteY, .absoluteX]
  | .rra => [.indirectX, .zeroPage, .absolute, .indirectY, .zeroPageX, .absoluteY, .absoluteX]
  | .dcp => [.indirectX, .zeroPage, .absolute, .indirectY, .zeroPageX, .absoluteY, .absoluteX]
  | .isb => [.indirectX, .zeroPage, .absolute, .indirectY, .zeroPageX, .absoluteY, .absoluteX]
  | .sax => [.indirectX, .zeroPage, .absolute, .zeroPageY]
  | .lax => [.indirectX, .zeroPage, .absolute, .indirectY, .zeroPageY, .absoluteY]
  | .las => [.absoluteY]
  | .anc => [.immediate]
  | .alr => [.immediate]
  | .arr => [.immediate]
  | .axs => [.immediate]
  | .xaa => [.immediate]
  | .lxa => [.immediate]
  | .ahx => [.indirectY, .absoluteY]
  | .shy => [.absoluteX]
  | .shx => [.absoluteY]
  | .tas => [.absoluteY]
  | .jam => [.implied]

/-- A mnemonic with an operand is an instruction of the table exactly when its rule lists an encoding in that mode:
there is no store to an immediate, no `LDX 0x1000,X`, no `JMP` through X. -/
def wellFormed (m : Mnemonic) (o : Operand) : Bool := m.modes.contains o.mode

/-- An instruction is well-formed when its mnemonic has its operand's mode. -/
def Instr.wf (i : Instr) : Bool := wellFormed i.mnemonic i.operand

/-- `PRG_ROM` has 16 KiB or 32 KiB (R9, D29). -/
def Cartridge.prgLengthOk (c : Cartridge) : Bool := c.prgRom.length == 16384 || c.prgRom.length == 32768

/-- `MAPPER = 0`, the fixed mapping (R9, D29). -/
def Cartridge.mapperOk (c : Cartridge) : Bool := c.mapper == 0#8

/-- `CHR_ROM` has 8192 bytes (R9, D29). -/
def Cartridge.chrLengthOk (c : Cartridge) : Bool := c.chrRom.length == 8192

/-- `MIRRORING` is not FourScreen, which the 2 KiB VRAM cannot back (R9, R345, D19). -/
def Cartridge.mirroringOk (c : Cartridge) : Bool := c.mirroring != .fourScreen

/-- The cartridges the model accepts, R9. -/
def Cartridge.wf (c : Cartridge) : Bool :=
  c.prgLengthOk && c.mapperOk && c.chrLengthOk && c.mirroringOk

end Sys2Proof
end

