-- ==== Sys2Proof/Decode.lean ====
section
/-! DEFINITION. The opcode table (R93 to R96, spec/opcode_table.json), the decoder (total on any bytes, R90 to R93) and the
encoder. -/

namespace Sys2Proof

/-- How many operand bytes follow the opcode, and the instruction they complete: a two-byte operand is little-endian
(R90, R91). -/
inductive Shape where
  | bare (i : Instr)
  | withByte (i : Byte → Instr)
  | withWord (i : Word → Instr)

/-- One row of the opcode table: "mnemonic, addressing mode, instruction length, and base cycle cost" (R90, R95), the
page-cross mark `+` of R95 and R96, and the instruction the row stands for. The length is the mode's (R91). -/
structure OpcodeRow where
  mnemonic : Mnemonic
  mode : Mode
  cycles : Nat
  pageCross : Bool
  official : Bool
  shape : Shape

/-- The table rows of opcodes 0x00 to 0x0F, in order (R94). -/
def opcodeRows0 : List OpcodeRow := [
  ⟨.brk, .implied, 7, false, true, (.bare .brk)⟩,
  ⟨.ora, .indirectX, 6, false, true, (.withByte .oraIndX)⟩,
  ⟨.jam, .implied, 0, false, false, (.bare .jam02)⟩,
  ⟨.slo, .indirectX, 8, false, false, (.withByte .sloIndX)⟩,
  ⟨.nop, .zeroPage, 3, false, false, (.withByte .nopZp04)⟩,
  ⟨.ora, .zeroPage, 3, false, true, (.withByte .oraZp)⟩,
  ⟨.asl, .zeroPage, 5, false, true, (.withByte .aslZp)⟩,
  ⟨.slo, .zeroPage, 5, false, false, (.withByte .sloZp)⟩,
  ⟨.php, .implied, 3, false, true, (.bare .php)⟩,
  ⟨.ora, .immediate, 2, false, true, (.withByte .oraImm)⟩,
  ⟨.asl, .accumulator, 2, false, true, (.bare .aslAcc)⟩,
  ⟨.anc, .immediate, 2, false, false, (.withByte .ancImm0B)⟩,
  ⟨.nop, .absolute, 4, false, false, (.withWord .nopAbs0C)⟩,
  ⟨.ora, .absolute, 4, false, true, (.withWord .oraAbs)⟩,
  ⟨.asl, .absolute, 6, false, true, (.withWord .aslAbs)⟩,
  ⟨.slo, .absolute, 6, false, false, (.withWord .sloAbs)⟩]

/-- The table rows of opcodes 0x10 to 0x1F, in order (R94). -/
def opcodeRows1 : List OpcodeRow := [
  ⟨.bpl, .relative, 2, false, true, (.withByte .bpl)⟩,
  ⟨.ora, .indirectY, 5, true, true, (.withByte .oraIndY)⟩,
  ⟨.jam, .implied, 0, false, false, (.bare .jam12)⟩,
  ⟨.slo, .indirectY, 8, false, false, (.withByte .sloIndY)⟩,
  ⟨.nop, .zeroPageX, 4, false, false, (.withByte .nopZpX14)⟩,
  ⟨.ora, .zeroPageX, 4, false, true, (.withByte .oraZpX)⟩,
  ⟨.asl, .zeroPageX, 6, false, true, (.withByte .aslZpX)⟩,
  ⟨.slo, .zeroPageX, 6, false, false, (.withByte .sloZpX)⟩,
  ⟨.clc, .implied, 2, false, true, (.bare .clc)⟩,
  ⟨.ora, .absoluteY, 4, true, true, (.withWord .oraAbsY)⟩,
  ⟨.nop, .implied, 2, false, false, (.bare .nopImp1A)⟩,
  ⟨.slo, .absoluteY, 7, false, false, (.withWord .sloAbsY)⟩,
  ⟨.nop, .absoluteX, 4, true, false, (.withWord .nopAbsX1C)⟩,
  ⟨.ora, .absoluteX, 4, true, true, (.withWord .oraAbsX)⟩,
  ⟨.asl, .absoluteX, 7, false, true, (.withWord .aslAbsX)⟩,
  ⟨.slo, .absoluteX, 7, false, false, (.withWord .sloAbsX)⟩]

/-- The table rows of opcodes 0x20 to 0x2F, in order (R94). -/
def opcodeRows2 : List OpcodeRow := [
  ⟨.jsr, .absolute, 6, false, true, (.withWord .jsr)⟩,
  ⟨.and, .indirectX, 6, false, true, (.withByte .andIndX)⟩,
  ⟨.jam, .implied, 0, false, false, (.bare .jam22)⟩,
  ⟨.rla, .indirectX, 8, false, false, (.withByte .rlaIndX)⟩,
  ⟨.bit, .zeroPage, 3, false, true, (.withByte .bitZp)⟩,
  ⟨.and, .zeroPage, 3, false, true, (.withByte .andZp)⟩,
  ⟨.rol, .zeroPage, 5, false, true, (.withByte .rolZp)⟩,
  ⟨.rla, .zeroPage, 5, false, false, (.withByte .rlaZp)⟩,
  ⟨.plp, .implied, 4, false, true, (.bare .plp)⟩,
  ⟨.and, .immediate, 2, false, true, (.withByte .andImm)⟩,
  ⟨.rol, .accumulator, 2, false, true, (.bare .rolAcc)⟩,
  ⟨.anc, .immediate, 2, false, false, (.withByte .ancImm2B)⟩,
  ⟨.bit, .absolute, 4, false, true, (.withWord .bitAbs)⟩,
  ⟨.and, .absolute, 4, false, true, (.withWord .andAbs)⟩,
  ⟨.rol, .absolute, 6, false, true, (.withWord .rolAbs)⟩,
  ⟨.rla, .absolute, 6, false, false, (.withWord .rlaAbs)⟩]

/-- The table rows of opcodes 0x30 to 0x3F, in order (R94). -/
def opcodeRows3 : List OpcodeRow := [
  ⟨.bmi, .relative, 2, false, true, (.withByte .bmi)⟩,
  ⟨.and, .indirectY, 5, true, true, (.withByte .andIndY)⟩,
  ⟨.jam, .implied, 0, false, false, (.bare .jam32)⟩,
  ⟨.rla, .indirectY, 8, false, false, (.withByte .rlaIndY)⟩,
  ⟨.nop, .zeroPageX, 4, false, false, (.withByte .nopZpX34)⟩,
  ⟨.and, .zeroPageX, 4, false, true, (.withByte .andZpX)⟩,
  ⟨.rol, .zeroPageX, 6, false, true, (.withByte .rolZpX)⟩,
  ⟨.rla, .zeroPageX, 6, false, false, (.withByte .rlaZpX)⟩,
  ⟨.sec, .implied, 2, false, true, (.bare .sec)⟩,
  ⟨.and, .absoluteY, 4, true, true, (.withWord .andAbsY)⟩,
  ⟨.nop, .implied, 2, false, false, (.bare .nopImp3A)⟩,
  ⟨.rla, .absoluteY, 7, false, false, (.withWord .rlaAbsY)⟩,
  ⟨.nop, .absoluteX, 4, true, false, (.withWord .nopAbsX3C)⟩,
  ⟨.and, .absoluteX, 4, true, true, (.withWord .andAbsX)⟩,
  ⟨.rol, .absoluteX, 7, false, true, (.withWord .rolAbsX)⟩,
  ⟨.rla, .absoluteX, 7, false, false, (.withWord .rlaAbsX)⟩]

/-- The table rows of opcodes 0x40 to 0x4F, in order (R94). -/
def opcodeRows4 : List OpcodeRow := [
  ⟨.rti, .implied, 6, false, true, (.bare .rti)⟩,
  ⟨.eor, .indirectX, 6, false, true, (.withByte .eorIndX)⟩,
  ⟨.jam, .implied, 0, false, false, (.bare .jam42)⟩,
  ⟨.sre, .indirectX, 8, false, false, (.withByte .sreIndX)⟩,
  ⟨.nop, .zeroPage, 3, false, false, (.withByte .nopZp44)⟩,
  ⟨.eor, .zeroPage, 3, false, true, (.withByte .eorZp)⟩,
  ⟨.lsr, .zeroPage, 5, false, true, (.withByte .lsrZp)⟩,
  ⟨.sre, .zeroPage, 5, false, false, (.withByte .sreZp)⟩,
  ⟨.pha, .implied, 3, false, true, (.bare .pha)⟩,
  ⟨.eor, .immediate, 2, false, true, (.withByte .eorImm)⟩,
  ⟨.lsr, .accumulator, 2, false, true, (.bare .lsrAcc)⟩,
  ⟨.alr, .immediate, 2, false, false, (.withByte .alrImm)⟩,
  ⟨.jmp, .absolute, 3, false, true, (.withWord .jmpAbs)⟩,
  ⟨.eor, .absolute, 4, false, true, (.withWord .eorAbs)⟩,
  ⟨.lsr, .absolute, 6, false, true, (.withWord .lsrAbs)⟩,
  ⟨.sre, .absolute, 6, false, false, (.withWord .sreAbs)⟩]

/-- The table rows of opcodes 0x50 to 0x5F, in order (R94). -/
def opcodeRows5 : List OpcodeRow := [
  ⟨.bvc, .relative, 2, false, true, (.withByte .bvc)⟩,
  ⟨.eor, .indirectY, 5, true, true, (.withByte .eorIndY)⟩,
  ⟨.jam, .implied, 0, false, false, (.bare .jam52)⟩,
  ⟨.sre, .indirectY, 8, false, false, (.withByte .sreIndY)⟩,
  ⟨.nop, .zeroPageX, 4, false, false, (.withByte .nopZpX54)⟩,
  ⟨.eor, .zeroPageX, 4, false, true, (.withByte .eorZpX)⟩,
  ⟨.lsr, .zeroPageX, 6, false, true, (.withByte .lsrZpX)⟩,
  ⟨.sre, .zeroPageX, 6, false, false, (.withByte .sreZpX)⟩,
  ⟨.cli, .implied, 2, false, true, (.bare .cli)⟩,
  ⟨.eor, .absoluteY, 4, true, true, (.withWord .eorAbsY)⟩,
  ⟨.nop, .implied, 2, false, false, (.bare .nopImp5A)⟩,
  ⟨.sre, .absoluteY, 7, false, false, (.withWord .sreAbsY)⟩,
  ⟨.nop, .absoluteX, 4, true, false, (.withWord .nopAbsX5C)⟩,
  ⟨.eor, .absoluteX, 4, true, true, (.withWord .eorAbsX)⟩,
  ⟨.lsr, .absoluteX, 7, false, true, (.withWord .lsrAbsX)⟩,
  ⟨.sre, .absoluteX, 7, false, false, (.withWord .sreAbsX)⟩]

/-- The table rows of opcodes 0x60 to 0x6F, in order (R94). -/
def opcodeRows6 : List OpcodeRow := [
  ⟨.rts, .implied, 6, false, true, (.bare .rts)⟩,
  ⟨.adc, .indirectX, 6, false, true, (.withByte .adcIndX)⟩,
  ⟨.jam, .implied, 0, false, false, (.bare .jam62)⟩,
  ⟨.rra, .indirectX, 8, false, false, (.withByte .rraIndX)⟩,
  ⟨.nop, .zeroPage, 3, false, false, (.withByte .nopZp64)⟩,
  ⟨.adc, .zeroPage, 3, false, true, (.withByte .adcZp)⟩,
  ⟨.ror, .zeroPage, 5, false, true, (.withByte .rorZp)⟩,
  ⟨.rra, .zeroPage, 5, false, false, (.withByte .rraZp)⟩,
  ⟨.pla, .implied, 4, false, true, (.bare .pla)⟩,
  ⟨.adc, .immediate, 2, false, true, (.withByte .adcImm)⟩,
  ⟨.ror, .accumulator, 2, false, true, (.bare .rorAcc)⟩,
  ⟨.arr, .immediate, 2, false, false, (.withByte .arrImm)⟩,
  ⟨.jmp, .indirect, 5, false, true, (.withWord .jmpInd)⟩,
  ⟨.adc, .absolute, 4, false, true, (.withWord .adcAbs)⟩,
  ⟨.ror, .absolute, 6, false, true, (.withWord .rorAbs)⟩,
  ⟨.rra, .absolute, 6, false, false, (.withWord .rraAbs)⟩]

/-- The table rows of opcodes 0x70 to 0x7F, in order (R94). -/
def opcodeRows7 : List OpcodeRow := [
  ⟨.bvs, .relative, 2, false, true, (.withByte .bvs)⟩,
  ⟨.adc, .indirectY, 5, true, true, (.withByte .adcIndY)⟩,
  ⟨.jam, .implied, 0, false, false, (.bare .jam72)⟩,
  ⟨.rra, .indirectY, 8, false, false, (.withByte .rraIndY)⟩,
  ⟨.nop, .zeroPageX, 4, false, false, (.withByte .nopZpX74)⟩,
  ⟨.adc, .zeroPageX, 4, false, true, (.withByte .adcZpX)⟩,
  ⟨.ror, .zeroPageX, 6, false, true, (.withByte .rorZpX)⟩,
  ⟨.rra, .zeroPageX, 6, false, false, (.withByte .rraZpX)⟩,
  ⟨.sei, .implied, 2, false, true, (.bare .sei)⟩,
  ⟨.adc, .absoluteY, 4, true, true, (.withWord .adcAbsY)⟩,
  ⟨.nop, .implied, 2, false, false, (.bare .nopImp7A)⟩,
  ⟨.rra, .absoluteY, 7, false, false, (.withWord .rraAbsY)⟩,
  ⟨.nop, .absoluteX, 4, true, false, (.withWord .nopAbsX7C)⟩,
  ⟨.adc, .absoluteX, 4, true, true, (.withWord .adcAbsX)⟩,
  ⟨.ror, .absoluteX, 7, false, true, (.withWord .rorAbsX)⟩,
  ⟨.rra, .absoluteX, 7, false, false, (.withWord .rraAbsX)⟩]

/-- The table rows of opcodes 0x80 to 0x8F, in order (R94). -/
def opcodeRows8 : List OpcodeRow := [
  ⟨.nop, .immediate, 2, false, false, (.withByte .nopImm80)⟩,
  ⟨.sta, .indirectX, 6, false, true, (.withByte .staIndX)⟩,
  ⟨.nop, .immediate, 2, false, false, (.withByte .nopImm82)⟩,
  ⟨.sax, .indirectX, 6, false, false, (.withByte .saxIndX)⟩,
  ⟨.sty, .zeroPage, 3, false, true, (.withByte .styZp)⟩,
  ⟨.sta, .zeroPage, 3, false, true, (.withByte .staZp)⟩,
  ⟨.stx, .zeroPage, 3, false, true, (.withByte .stxZp)⟩,
  ⟨.sax, .zeroPage, 3, false, false, (.withByte .saxZp)⟩,
  ⟨.dey, .implied, 2, false, true, (.bare .dey)⟩,
  ⟨.nop, .immediate, 2, false, false, (.withByte .nopImm89)⟩,
  ⟨.txa, .implied, 2, false, true, (.bare .txa)⟩,
  ⟨.xaa, .immediate, 2, false, false, (.withByte .xaaImm)⟩,
  ⟨.sty, .absolute, 4, false, true, (.withWord .styAbs)⟩,
  ⟨.sta, .absolute, 4, false, true, (.withWord .staAbs)⟩,
  ⟨.stx, .absolute, 4, false, true, (.withWord .stxAbs)⟩,
  ⟨.sax, .absolute, 4, false, false, (.withWord .saxAbs)⟩]

/-- The table rows of opcodes 0x90 to 0x9F, in order (R94). -/
def opcodeRows9 : List OpcodeRow := [
  ⟨.bcc, .relative, 2, false, true, (.withByte .bcc)⟩,
  ⟨.sta, .indirectY, 6, false, true, (.withByte .staIndY)⟩,
  ⟨.jam, .implied, 0, false, false, (.bare .jam92)⟩,
  ⟨.ahx, .indirectY, 6, false, false, (.withByte .ahxIndY)⟩,
  ⟨.sty, .zeroPageX, 4, false, true, (.withByte .styZpX)⟩,
  ⟨.sta, .zeroPageX, 4, false, true, (.withByte .staZpX)⟩,
  ⟨.stx, .zeroPageY, 4, false, true, (.withByte .stxZpY)⟩,
  ⟨.sax, .zeroPageY, 4, false, false, (.withByte .saxZpY)⟩,
  ⟨.tya, .implied, 2, false, true, (.bare .tya)⟩,
  ⟨.sta, .absoluteY, 5, false, true, (.withWord .staAbsY)⟩,
  ⟨.txs, .implied, 2, false, true, (.bare .txs)⟩,
  ⟨.tas, .absoluteY, 5, false, false, (.withWord .tasAbsY)⟩,
  ⟨.shy, .absoluteX, 5, false, false, (.withWord .shyAbsX)⟩,
  ⟨.sta, .absoluteX, 5, false, true, (.withWord .staAbsX)⟩,
  ⟨.shx, .absoluteY, 5, false, false, (.withWord .shxAbsY)⟩,
  ⟨.ahx, .absoluteY, 5, false, false, (.withWord .ahxAbsY)⟩]

/-- The table rows of opcodes 0xA0 to 0xAF, in order (R94). -/
def opcodeRowsA : List OpcodeRow := [
  ⟨.ldy, .immediate, 2, false, true, (.withByte .ldyImm)⟩,
  ⟨.lda, .indirectX, 6, false, true, (.withByte .ldaIndX)⟩,
  ⟨.ldx, .immediate, 2, false, true, (.withByte .ldxImm)⟩,
  ⟨.lax, .indirectX, 6, false, false, (.withByte .laxIndX)⟩,
  ⟨.ldy, .zeroPage, 3, false, true, (.withByte .ldyZp)⟩,
  ⟨.lda, .zeroPage, 3, false, true, (.withByte .ldaZp)⟩,
  ⟨.ldx, .zeroPage, 3, false, true, (.withByte .ldxZp)⟩,
  ⟨.lax, .zeroPage, 3, false, false, (.withByte .laxZp)⟩,
  ⟨.tay, .implied, 2, false, true, (.bare .tay)⟩,
  ⟨.lda, .immediate, 2, false, true, (.withByte .ldaImm)⟩,
  ⟨.tax, .implied, 2, false, true, (.bare .tax)⟩,
  ⟨.lxa, .immediate, 2, false, false, (.withByte .lxaImm)⟩,
  ⟨.ldy, .absolute, 4, false, true, (.withWord .ldyAbs)⟩,
  ⟨.lda, .absolute, 4, false, true, (.withWord .ldaAbs)⟩,
  ⟨.ldx, .absolute, 4, false, true, (.withWord .ldxAbs)⟩,
  ⟨.lax, .absolute, 4, false, false, (.withWord .laxAbs)⟩]

/-- The table rows of opcodes 0xB0 to 0xBF, in order (R94). -/
def opcodeRowsB : List OpcodeRow := [
  ⟨.bcs, .relative, 2, false, true, (.withByte .bcs)⟩,
  ⟨.lda, .indirectY, 5, true, true, (.withByte .ldaIndY)⟩,
  ⟨.jam, .implied, 0, false, false, (.bare .jamB2)⟩,
  ⟨.lax, .indirectY, 5, true, false, (.withByte .laxIndY)⟩,
  ⟨.ldy, .zeroPageX, 4, false, true, (.withByte .ldyZpX)⟩,
  ⟨.lda, .zeroPageX, 4, false, true, (.withByte .ldaZpX)⟩,
  ⟨.ldx, .zeroPageY, 4, false, true, (.withByte .ldxZpY)⟩,
  ⟨.lax, .zeroPageY, 4, false, false, (.withByte .laxZpY)⟩,
  ⟨.clv, .implied, 2, false, true, (.bare .clv)⟩,
  ⟨.lda, .absoluteY, 4, true, true, (.withWord .ldaAbsY)⟩,
  ⟨.tsx, .implied, 2, false, true, (.bare .tsx)⟩,
  ⟨.las, .absoluteY, 4, true, false, (.withWord .lasAbsY)⟩,
  ⟨.ldy, .absoluteX, 4, true, true, (.withWord .ldyAbsX)⟩,
  ⟨.lda, .absoluteX, 4, true, true, (.withWord .ldaAbsX)⟩,
  ⟨.ldx, .absoluteY, 4, true, true, (.withWord .ldxAbsY)⟩,
  ⟨.lax, .absoluteY, 4, true, false, (.withWord .laxAbsY)⟩]

/-- The table rows of opcodes 0xC0 to 0xCF, in order (R94). -/
def opcodeRowsC : List OpcodeRow := [
  ⟨.cpy, .immediate, 2, false, true, (.withByte .cpyImm)⟩,
  ⟨.cmp, .indirectX, 6, false, true, (.withByte .cmpIndX)⟩,
  ⟨.nop, .immediate, 2, false, false, (.withByte .nopImmC2)⟩,
  ⟨.dcp, .indirectX, 8, false, false, (.withByte .dcpIndX)⟩,
  ⟨.cpy, .zeroPage, 3, false, true, (.withByte .cpyZp)⟩,
  ⟨.cmp, .zeroPage, 3, false, true, (.withByte .cmpZp)⟩,
  ⟨.dec, .zeroPage, 5, false, true, (.withByte .decZp)⟩,
  ⟨.dcp, .zeroPage, 5, false, false, (.withByte .dcpZp)⟩,
  ⟨.iny, .implied, 2, false, true, (.bare .iny)⟩,
  ⟨.cmp, .immediate, 2, false, true, (.withByte .cmpImm)⟩,
  ⟨.dex, .implied, 2, false, true, (.bare .dex)⟩,
  ⟨.axs, .immediate, 2, false, false, (.withByte .axsImm)⟩,
  ⟨.cpy, .absolute, 4, false, true, (.withWord .cpyAbs)⟩,
  ⟨.cmp, .absolute, 4, false, true, (.withWord .cmpAbs)⟩,
  ⟨.dec, .absolute, 6, false, true, (.withWord .decAbs)⟩,
  ⟨.dcp, .absolute, 6, false, false, (.withWord .dcpAbs)⟩]

/-- The table rows of opcodes 0xD0 to 0xDF, in order (R94). -/
def opcodeRowsD : List OpcodeRow := [
  ⟨.bne, .relative, 2, false, true, (.withByte .bne)⟩,
  ⟨.cmp, .indirectY, 5, true, true, (.withByte .cmpIndY)⟩,
  ⟨.jam, .implied, 0, false, false, (.bare .jamD2)⟩,
  ⟨.dcp, .indirectY, 8, false, false, (.withByte .dcpIndY)⟩,
  ⟨.nop, .zeroPageX, 4, false, false, (.withByte .nopZpXD4)⟩,
  ⟨.cmp, .zeroPageX, 4, false, true, (.withByte .cmpZpX)⟩,
  ⟨.dec, .zeroPageX, 6, false, true, (.withByte .decZpX)⟩,
  ⟨.dcp, .zeroPageX, 6, false, false, (.withByte .dcpZpX)⟩,
  ⟨.cld, .implied, 2, false, true, (.bare .cld)⟩,
  ⟨.cmp, .absoluteY, 4, true, true, (.withWord .cmpAbsY)⟩,
  ⟨.nop, .implied, 2, false, false, (.bare .nopImpDA)⟩,
  ⟨.dcp, .absoluteY, 7, false, false, (.withWord .dcpAbsY)⟩,
  ⟨.nop, .absoluteX, 4, true, false, (.withWord .nopAbsXDC)⟩,
  ⟨.cmp, .absoluteX, 4, true, true, (.withWord .cmpAbsX)⟩,
  ⟨.dec, .absoluteX, 7, false, true, (.withWord .decAbsX)⟩,
  ⟨.dcp, .absoluteX, 7, false, false, (.withWord .dcpAbsX)⟩]

/-- The table rows of opcodes 0xE0 to 0xEF, in order (R94). -/
def opcodeRowsE : List OpcodeRow := [
  ⟨.cpx, .immediate, 2, false, true, (.withByte .cpxImm)⟩,
  ⟨.sbc, .indirectX, 6, false, true, (.withByte .sbcIndX)⟩,
  ⟨.nop, .immediate, 2, false, false, (.withByte .nopImmE2)⟩,
  ⟨.isb, .indirectX, 8, false, false, (.withByte .isbIndX)⟩,
  ⟨.cpx, .zeroPage, 3, false, true, (.withByte .cpxZp)⟩,
  ⟨.sbc, .zeroPage, 3, false, true, (.withByte .sbcZp)⟩,
  ⟨.inc, .zeroPage, 5, false, true, (.withByte .incZp)⟩,
  ⟨.isb, .zeroPage, 5, false, false, (.withByte .isbZp)⟩,
  ⟨.inx, .implied, 2, false, true, (.bare .inx)⟩,
  ⟨.sbc, .immediate, 2, false, true, (.withByte .sbcImm)⟩,
  ⟨.nop, .implied, 2, false, true, (.bare .nop)⟩,
  ⟨.sbc, .immediate, 2, false, false, (.withByte .sbcImmEB)⟩,
  ⟨.cpx, .absolute, 4, false, true, (.withWord .cpxAbs)⟩,
  ⟨.sbc, .absolute, 4, false, true, (.withWord .sbcAbs)⟩,
  ⟨.inc, .absolute, 6, false, true, (.withWord .incAbs)⟩,
  ⟨.isb, .absolute, 6, false, false, (.withWord .isbAbs)⟩]

/-- The table rows of opcodes 0xF0 to 0xFF, in order (R94). -/
def opcodeRowsF : List OpcodeRow := [
  ⟨.beq, .relative, 2, false, true, (.withByte .beq)⟩,
  ⟨.sbc, .indirectY, 5, true, true, (.withByte .sbcIndY)⟩,
  ⟨.jam, .implied, 0, false, false, (.bare .jamF2)⟩,
  ⟨.isb, .indirectY, 8, false, false, (.withByte .isbIndY)⟩,
  ⟨.nop, .zeroPageX, 4, false, false, (.withByte .nopZpXF4)⟩,
  ⟨.sbc, .zeroPageX, 4, false, true, (.withByte .sbcZpX)⟩,
  ⟨.inc, .zeroPageX, 6, false, true, (.withByte .incZpX)⟩,
  ⟨.isb, .zeroPageX, 6, false, false, (.withByte .isbZpX)⟩,
  ⟨.sed, .implied, 2, false, true, (.bare .sed)⟩,
  ⟨.sbc, .absoluteY, 4, true, true, (.withWord .sbcAbsY)⟩,
  ⟨.nop, .implied, 2, false, false, (.bare .nopImpFA)⟩,
  ⟨.isb, .absoluteY, 7, false, false, (.withWord .isbAbsY)⟩,
  ⟨.nop, .absoluteX, 4, true, false, (.withWord .nopAbsXFC)⟩,
  ⟨.sbc, .absoluteX, 4, true, true, (.withWord .sbcAbsX)⟩,
  ⟨.inc, .absoluteX, 7, false, true, (.withWord .incAbsX)⟩,
  ⟨.isb, .absoluteX, 7, false, false, (.withWord .isbAbsX)⟩]

/-- The opcode matrix of R94: its line for a high nibble. -/
def opcodeLine : Nat → List OpcodeRow
  | 0 => opcodeRows0
  | 1 => opcodeRows1
  | 2 => opcodeRows2
  | 3 => opcodeRows3
  | 4 => opcodeRows4
  | 5 => opcodeRows5
  | 6 => opcodeRows6
  | 7 => opcodeRows7
  | 8 => opcodeRows8
  | 9 => opcodeRows9
  | 10 => opcodeRowsA
  | 11 => opcodeRowsB
  | 12 => opcodeRowsC
  | 13 => opcodeRowsD
  | 14 => opcodeRowsE
  | 15 => opcodeRowsF
  | _ => []

/-- Decode is a lookup of byte 0 in the opcode table (R93). `none` would be a byte with no row (R302). -/
def opcodeRow (op : Byte) : Option OpcodeRow := (opcodeLine (op.toNat / 16))[op.toNat % 16]?

/-- Why a byte sequence is no instruction. -/
inductive DecodeError where
  /-- There is no byte to decode. -/
  | noBytes
  /-- The opcode byte has no table row (R302): with the full table no byte does. -/
  | unknownOpcode (op : Byte)
  /-- The opcode's row needs operand bytes that are not there. -/
  | missingOperand (op : Byte)
  deriving DecidableEq, Repr

/-- The instruction of a row's shape and the operand bytes, and the bytes left over. -/
def Shape.apply (op : Byte) : Shape → List Byte → Except DecodeError (Instr × List Byte)
  | .bare i, rest => .ok (i, rest)
  | .withByte f, b :: rest => .ok (f b, rest)
  | .withWord f, lo :: hi :: rest => .ok (f (joinBytes hi lo), rest)
  | _, _ => .error (.missingOperand op)

/-- Reads one instruction off a byte sequence and returns the rest (R90, R93). -/
def decodePrefix : List Byte → Except DecodeError (Instr × List Byte)
  | [] => .error .noBytes
  | op :: rest =>
    match opcodeRow op with
    | none => .error (.unknownOpcode op)
    | some row => row.shape.apply op rest

/-- The instruction a byte sequence begins with. -/
def decode (bytes : List Byte) : Except DecodeError Instr :=
  match decodePrefix bytes with
  | .ok (i, _) => .ok i
  | .error e => .error e

/-- The opcode byte of an instruction (R95, R96). -/
def Instr.opcode : Instr → Byte
  | .ldaIndX _ => 0xA1#8
  | .ldaZp _ => 0xA5#8
  | .ldaImm _ => 0xA9#8
  | .ldaAbs _ => 0xAD#8
  | .ldaIndY _ => 0xB1#8
  | .ldaZpX _ => 0xB5#8
  | .ldaAbsY _ => 0xB9#8
  | .ldaAbsX _ => 0xBD#8
  | .ldxImm _ => 0xA2#8
  | .ldxZp _ => 0xA6#8
  | .ldxAbs _ => 0xAE#8
  | .ldxZpY _ => 0xB6#8
  | .ldxAbsY _ => 0xBE#8
  | .ldyImm _ => 0xA0#8
  | .ldyZp _ => 0xA4#8
  | .ldyAbs _ => 0xAC#8
  | .ldyZpX _ => 0xB4#8
  | .ldyAbsX _ => 0xBC#8
  | .staIndX _ => 0x81#8
  | .staZp _ => 0x85#8
  | .staAbs _ => 0x8D#8
  | .staIndY _ => 0x91#8
  | .staZpX _ => 0x95#8
  | .staAbsY _ => 0x99#8
  | .staAbsX _ => 0x9D#8
  | .stxZp _ => 0x86#8
  | .stxAbs _ => 0x8E#8
  | .stxZpY _ => 0x96#8
  | .styZp _ => 0x84#8
  | .styAbs _ => 0x8C#8
  | .styZpX _ => 0x94#8
  | .tax => 0xAA#8
  | .tay => 0xA8#8
  | .txa => 0x8A#8
  | .tya => 0x98#8
  | .tsx => 0xBA#8
  | .txs => 0x9A#8
  | .adcIndX _ => 0x61#8
  | .adcZp _ => 0x65#8
  | .adcImm _ => 0x69#8
  | .adcAbs _ => 0x6D#8
  | .adcIndY _ => 0x71#8
  | .adcZpX _ => 0x75#8
  | .adcAbsY _ => 0x79#8
  | .adcAbsX _ => 0x7D#8
  | .sbcIndX _ => 0xE1#8
  | .sbcZp _ => 0xE5#8
  | .sbcImm _ => 0xE9#8
  | .sbcImmEB _ => 0xEB#8
  | .sbcAbs _ => 0xED#8
  | .sbcIndY _ => 0xF1#8
  | .sbcZpX _ => 0xF5#8
  | .sbcAbsY _ => 0xF9#8
  | .sbcAbsX _ => 0xFD#8
  | .cmpIndX _ => 0xC1#8
  | .cmpZp _ => 0xC5#8
  | .cmpImm _ => 0xC9#8
  | .cmpAbs _ => 0xCD#8
  | .cmpIndY _ => 0xD1#8
  | .cmpZpX _ => 0xD5#8
  | .cmpAbsY _ => 0xD9#8
  | .cmpAbsX _ => 0xDD#8
  | .cpxImm _ => 0xE0#8
  | .cpxZp _ => 0xE4#8
  | .cpxAbs _ => 0xEC#8
  | .cpyImm _ => 0xC0#8
  | .cpyZp _ => 0xC4#8
  | .cpyAbs _ => 0xCC#8
  | .andIndX _ => 0x21#8
  | .andZp _ => 0x25#8
  | .andImm _ => 0x29#8
  | .andAbs _ => 0x2D#8
  | .andIndY _ => 0x31#8
  | .andZpX _ => 0x35#8
  | .andAbsY _ => 0x39#8
  | .andAbsX _ => 0x3D#8
  | .oraIndX _ => 0x01#8
  | .oraZp _ => 0x05#8
  | .oraImm _ => 0x09#8
  | .oraAbs _ => 0x0D#8
  | .oraIndY _ => 0x11#8
  | .oraZpX _ => 0x15#8
  | .oraAbsY _ => 0x19#8
  | .oraAbsX _ => 0x1D#8
  | .eorIndX _ => 0x41#8
  | .eorZp _ => 0x45#8
  | .eorImm _ => 0x49#8
  | .eorAbs _ => 0x4D#8
  | .eorIndY _ => 0x51#8
  | .eorZpX _ => 0x55#8
  | .eorAbsY _ => 0x59#8
  | .eorAbsX _ => 0x5D#8
  | .bitZp _ => 0x24#8
  | .bitAbs _ => 0x2C#8
  | .incZp _ => 0xE6#8
  | .incAbs _ => 0xEE#8
  | .incZpX _ => 0xF6#8
  | .incAbsX _ => 0xFE#8
  | .decZp _ => 0xC6#8
  | .decAbs _ => 0xCE#8
  | .decZpX _ => 0xD6#8
  | .decAbsX _ => 0xDE#8
  | .inx => 0xE8#8
  | .iny => 0xC8#8
  | .dex => 0xCA#8
  | .dey => 0x88#8
  | .aslZp _ => 0x06#8
  | .aslAcc => 0x0A#8
  | .aslAbs _ => 0x0E#8
  | .aslZpX _ => 0x16#8
  | .aslAbsX _ => 0x1E#8
  | .lsrZp _ => 0x46#8
  | .lsrAcc => 0x4A#8
  | .lsrAbs _ => 0x4E#8
  | .lsrZpX _ => 0x56#8
  | .lsrAbsX _ => 0x5E#8
  | .rolZp _ => 0x26#8
  | .rolAcc => 0x2A#8
  | .rolAbs _ => 0x2E#8
  | .rolZpX _ => 0x36#8
  | .rolAbsX _ => 0x3E#8
  | .rorZp _ => 0x66#8
  | .rorAcc => 0x6A#8
  | .rorAbs _ => 0x6E#8
  | .rorZpX _ => 0x76#8
  | .rorAbsX _ => 0x7E#8
  | .jmpAbs _ => 0x4C#8
  | .jmpInd _ => 0x6C#8
  | .jsr _ => 0x20#8
  | .rts => 0x60#8
  | .bcc _ => 0x90#8
  | .bcs _ => 0xB0#8
  | .beq _ => 0xF0#8
  | .bne _ => 0xD0#8
  | .bmi _ => 0x30#8
  | .bpl _ => 0x10#8
  | .bvc _ => 0x50#8
  | .bvs _ => 0x70#8
  | .nopZp04 _ => 0x04#8
  | .nopAbs0C _ => 0x0C#8
  | .nopZpX14 _ => 0x14#8
  | .nopImp1A => 0x1A#8
  | .nopAbsX1C _ => 0x1C#8
  | .nopZpX34 _ => 0x34#8
  | .nopImp3A => 0x3A#8
  | .nopAbsX3C _ => 0x3C#8
  | .nopZp44 _ => 0x44#8
  | .nopZpX54 _ => 0x54#8
  | .nopImp5A => 0x5A#8
  | .nopAbsX5C _ => 0x5C#8
  | .nopZp64 _ => 0x64#8
  | .nopZpX74 _ => 0x74#8
  | .nopImp7A => 0x7A#8
  | .nopAbsX7C _ => 0x7C#8
  | .nopImm80 _ => 0x80#8
  | .nopImm82 _ => 0x82#8
  | .nopImm89 _ => 0x89#8
  | .nopImmC2 _ => 0xC2#8
  | .nopZpXD4 _ => 0xD4#8
  | .nopImpDA => 0xDA#8
  | .nopAbsXDC _ => 0xDC#8
  | .nopImmE2 _ => 0xE2#8
  | .nop => 0xEA#8
  | .nopZpXF4 _ => 0xF4#8
  | .nopImpFA => 0xFA#8
  | .nopAbsXFC _ => 0xFC#8
  | .brk => 0x00#8
  | .rti => 0x40#8
  | .pha => 0x48#8
  | .pla => 0x68#8
  | .php => 0x08#8
  | .plp => 0x28#8
  | .clc => 0x18#8
  | .sec => 0x38#8
  | .cli => 0x58#8
  | .sei => 0x78#8
  | .cld => 0xD8#8
  | .sed => 0xF8#8
  | .clv => 0xB8#8
  | .sloIndX _ => 0x03#8
  | .sloZp _ => 0x07#8
  | .sloAbs _ => 0x0F#8
  | .sloIndY _ => 0x13#8
  | .sloZpX _ => 0x17#8
  | .sloAbsY _ => 0x1B#8
  | .sloAbsX _ => 0x1F#8
  | .rlaIndX _ => 0x23#8
  | .rlaZp _ => 0x27#8
  | .rlaAbs _ => 0x2F#8
  | .rlaIndY _ => 0x33#8
  | .rlaZpX _ => 0x37#8
  | .rlaAbsY _ => 0x3B#8
  | .rlaAbsX _ => 0x3F#8
  | .sreIndX _ => 0x43#8
  | .sreZp _ => 0x47#8
  | .sreAbs _ => 0x4F#8
  | .sreIndY _ => 0x53#8
  | .sreZpX _ => 0x57#8
  | .sreAbsY _ => 0x5B#8
  | .sreAbsX _ => 0x5F#8
  | .rraIndX _ => 0x63#8
  | .rraZp _ => 0x67#8
  | .rraAbs _ => 0x6F#8
  | .rraIndY _ => 0x73#8
  | .rraZpX _ => 0x77#8
  | .rraAbsY _ => 0x7B#8
  | .rraAbsX _ => 0x7F#8
  | .dcpIndX _ => 0xC3#8
  | .dcpZp _ => 0xC7#8
  | .dcpAbs _ => 0xCF#8
  | .dcpIndY _ => 0xD3#8
  | .dcpZpX _ => 0xD7#8
  | .dcpAbsY _ => 0xDB#8
  | .dcpAbsX _ => 0xDF#8
  | .isbIndX _ => 0xE3#8
  | .isbZp _ => 0xE7#8
  | .isbAbs _ => 0xEF#8
  | .isbIndY _ => 0xF3#8
  | .isbZpX _ => 0xF7#8
  | .isbAbsY _ => 0xFB#8
  | .isbAbsX _ => 0xFF#8
  | .saxIndX _ => 0x83#8
  | .saxZp _ => 0x87#8
  | .saxAbs _ => 0x8F#8
  | .saxZpY _ => 0x97#8
  | .laxIndX _ => 0xA3#8
  | .laxZp _ => 0xA7#8
  | .laxAbs _ => 0xAF#8
  | .laxIndY _ => 0xB3#8
  | .laxZpY _ => 0xB7#8
  | .laxAbsY _ => 0xBF#8
  | .lasAbsY _ => 0xBB#8
  | .ancImm0B _ => 0x0B#8
  | .ancImm2B _ => 0x2B#8
  | .alrImm _ => 0x4B#8
  | .arrImm _ => 0x6B#8
  | .axsImm _ => 0xCB#8
  | .xaaImm _ => 0x8B#8
  | .lxaImm _ => 0xAB#8
  | .ahxIndY _ => 0x93#8
  | .ahxAbsY _ => 0x9F#8
  | .shyAbsX _ => 0x9C#8
  | .shxAbsY _ => 0x9E#8
  | .tasAbsY _ => 0x9B#8
  | .jam02 => 0x02#8
  | .jam12 => 0x12#8
  | .jam22 => 0x22#8
  | .jam32 => 0x32#8
  | .jam42 => 0x42#8
  | .jam52 => 0x52#8
  | .jam62 => 0x62#8
  | .jam72 => 0x72#8
  | .jam92 => 0x92#8
  | .jamB2 => 0xB2#8
  | .jamD2 => 0xD2#8
  | .jamF2 => 0xF2#8

/-- The bytes of a memory operand, low byte first (R91). -/
def MemForm.bytes : MemForm → List Byte
  | .zeroPage zp => [zp]
  | .zeroPageX zp => [zp]
  | .zeroPageY zp => [zp]
  | .absolute addr => [lowByte addr, highByte addr]
  | .absoluteX addr => [lowByte addr, highByte addr]
  | .absoluteY addr => [lowByte addr, highByte addr]
  | .indirectX zp => [zp]
  | .indirectY zp => [zp]

/-- The operand bytes that follow the opcode, low byte first (R91). -/
def Operand.bytes : Operand → List Byte
  | .implied => []
  | .accumulator => []
  | .immediate imm => [imm]
  | .memory form => form.bytes
  | .indirect ptr => [lowByte ptr, highByte ptr]
  | .relative rel => [rel]

/-- The bytes of an instruction: its opcode, then its operand (R90, R91). -/
def encode (i : Instr) : List Byte := i.opcode :: i.operand.bytes

/-- The base cycle cost of an instruction's row (R95, R96). -/
def Instr.baseCycles (i : Instr) : Nat :=
  match opcodeRow i.opcode with
  | some row => row.cycles
  | none => 0

/-- The instruction's row takes the page-cross penalty (R114). -/
def Instr.pageCross (i : Instr) : Bool :=
  match opcodeRow i.opcode with
  | some row => row.pageCross
  | none => false

/-- Byte `k` of an instruction whose bits are numbered from the least significant bit of its first byte. -/
def tableByte (w k : Nat) : Byte := BitVec.ofNat 8 (w / 256 ^ k)

/-- The bytes of an opcode-table word, filled with zeros up to the longest instruction, three bytes. -/
def tableBytes (nbits w : Nat) : List Byte :=
  [tableByte (w % 2 ^ nbits) 0, tableByte (w % 2 ^ nbits) 1, tableByte (w % 2 ^ nbits) 2]

/-- The instruction the decoder reads from an opcode-table word. -/
def decodeTableWord (nbits w : Nat) : Option Instr :=
  match decode (tableBytes nbits w) with
  | .ok i => some i
  | .error _ => none

end Sys2Proof
end

