-- ==== Sys2Proof/Machine/Flags.lean ====
section
/-! DEFINITION. The status register P and every flag computation of the ALU (R27, R28, R30, R150, R153, R180 to R183,
R251). -/

namespace Sys2Proof.Machine

/-- The eight flags of P (R27); `u` is the source's Break2. -/
inductive Flag where
  | c
  | z
  | i
  | d
  | b
  | u
  | v
  | n
  deriving DecidableEq, Repr

/-- The bit of P a flag stands at (R27, D3). -/
def flagBit : Flag → Nat
  | .c => 0
  | .z => 1
  | .i => 2
  | .d => 3
  | .b => 4
  | .u => 5
  | .v => 6
  | .n => 7

/-- The mask of a flag in P (R27). -/
def flagMask (f : Flag) : Byte := 1#8 <<< flagBit f

/-- A flag of a status byte. -/
def getFlag (f : Flag) (p : Byte) : Bool := p.getLsbD (flagBit f)

/-- A status byte with one flag written. -/
def setFlag (f : Flag) (v : Bool) (p : Byte) : Byte := if v then p ||| flagMask f else p &&& ~~~ flagMask f

/-- `SetZN(v)`: "Zero set iff result byte is 0; Negative set iff bit 7 of result is set" (R14). -/
def setZN (v : Byte) (p : Byte) : Byte := setFlag .n (v.getLsbD 7) (setFlag .z (v == 0#8) p)

/-- The carry flag as a number, the carry-in of the adder and the rotates. -/
def carryIn (p : Byte) : Nat := (getFlag .c p).toNat

/-- The copy of P a push writes: bits 5:4 replaced by the pusher's mask (R30, R222, R320). -/
def pushedStatus (mask : Byte) (p : Byte) : Byte := (p &&& 0xCF#8) ||| mask

/-- The live P after a status pull: Break forced 0, Break2 forced 1, the other six bits from the pulled byte
(R30, R196, R223). -/
def pulledStatus (b : Byte) : Byte := (b &&& 0xCF#8) ||| 0x20#8

/-- What the adder answers: the result byte, the carry and the overflow. -/
structure Sum where
  result : Byte
  carry : Bool
  overflow : Bool
  deriving DecidableEq, Repr

/-- `AddCore(a, m, c)`, R150: the 9-bit sum, its bit 8, and `((a ^ result) & (m ^ result) & 0x80) != 0`. -/
def addCore (a m : Byte) (c : Nat) : Sum :=
  let sum := a.toNat + m.toNat + c
  let result := BitVec.ofNat 8 sum
  { result := result
    carry := decide (0xFF < sum)
    overflow := ((a ^^^ result) &&& (m ^^^ result) &&& 0x80#8) != 0#8 }

/-- The flags ADC and SBC write from the adder: C, V, then Z and N (R151, R152). -/
def sumFlags (r : Sum) (p : Byte) : Byte := setZN r.result (setFlag .v r.overflow (setFlag .c r.carry p))

/-- `Compare(r, m)`, R153: C is the unsigned `r >= m`, Z and N follow the wrapping difference. -/
def compareFlags (r m : Byte) (p : Byte) : Byte := setZN (r - m) (setFlag .c (decide (m.toNat ≤ r.toNat)) p)

/-- BIT's flags, R160: Z from `A & M`, N and V from bits 7 and 6 of M. -/
def bitFlags (a m : Byte) (p : Byte) : Byte :=
  setFlag .v (m.getLsbD 6) (setFlag .n (m.getLsbD 7) (setFlag .z ((a &&& m) == 0#8) p))

/-- ASL's result, R180. -/
def shiftLeft (v : Byte) : Byte := v <<< 1

/-- LSR's result, R181. -/
def shiftRight (v : Byte) : Byte := v >>> 1

/-- ROL's result, R182: the old carry enters bit 0. -/
def rotateLeft (v : Byte) (p : Byte) : Byte := (v <<< 1) ||| BitVec.ofNat 8 (carryIn p)

/-- ROR's result, R183: the old carry enters bit 7. -/
def rotateRight (v : Byte) (p : Byte) : Byte := (v >>> 1) ||| (BitVec.ofNat 8 (carryIn p) <<< 7)

/-- The flags of a shift or rotate: C is the bit shifted out, Z and N follow the result (R180 to R184). -/
def shiftFlags (out : Bool) (r : Byte) (p : Byte) : Byte := setZN r (setFlag .c out p)

/-- ARR's flags, R251: Z and N from A, C from bit 6, V from bit 6 XOR bit 5. -/
def arrFlags (a : Byte) (p : Byte) : Byte :=
  setFlag .v (a.getLsbD 6 ^^ a.getLsbD 5) (setFlag .c (a.getLsbD 6) (setZN a p))

end Sys2Proof.Machine
end

