-- ==== Sys2Proof/Machine/Memory.lean ====
section
/-! DEFINITION. A byte memory as plain data: a list of (index, byte) cells in one canonical form (strictly rising
indexes, no entry equal to what an unlisted index reads as). It holds RAM (R34), VRAM, OAM, PAL (R35) and the two ROMs
of the cartridge (R9). -/

namespace Sys2Proof.Machine

/-- The cells of one memory, in the canonical form `memoryWf`. -/
abbrev Memory := List Host.Cell

/-- What an index that no cell lists reads as. DESIGN CHOICE (log 3, log 4; unsafe): the spec leaves the power-on
contents of RAM, VRAM, OAM and the palette open (R34, R35, D20). -/
def blankByte : Byte := 0x00#8

/-- The byte at index `k`. -/
def memRead : Memory → Nat → Byte
  | [], _ => blankByte
  | (j, b) :: rest, k => if j = k then b else memRead rest k

/-- The memory with cell `k` replaced by `v`, in canonical form again. -/
def memWrite : Memory → Nat → Byte → Memory
  | [], k, v => if v = blankByte then [] else [(k, v)]
  | (j, b) :: rest, k, v =>
    if k < j then
      if v = blankByte then (j, b) :: rest else (k, v) :: (j, b) :: rest
    else if k = j then
      if v = blankByte then rest else (k, v) :: rest
    else (j, b) :: memWrite rest k v

/-- The memory whose cells from index `k` on are the bytes of a list. -/
def memOfBytes (k : Nat) : List Byte → Memory
  | [] => []
  | b :: rest => if b = blankByte then memOfBytes (k + 1) rest else (k, b) :: memOfBytes (k + 1) rest

/-- The canonical form from index `lo` on: rising indexes, no blank entry. -/
def memoryWfFrom (lo : Nat) : Memory → Bool
  | [] => true
  | (j, b) :: rest => decide (lo ≤ j) && b != blankByte && memoryWfFrom (j + 1) rest

/-- The canonical form: strictly rising indexes, no entry equal to what an unlisted index reads as. -/
def memoryWf (m : Memory) : Bool := memoryWfFrom 0 m

/-- Every listed index is below `n`, the size of the memory. -/
def memoryWithin (n : Nat) (m : Memory) : Bool := m.all fun cell => decide (cell.1 < n)

end Sys2Proof.Machine
end

