-- ==== Sys2Proof/Machine/State.lean ====
section
/-! DEFINITION. The state of the machine as plain data (spec/10_state.md), the reasons it stops, and the state right
after reset. -/

namespace Sys2Proof.Machine

/-- The kinds of InvalidAccess (R62, R303). -/
inductive AccessKind where
  /-- A write to program ROM. -/
  | writeRom
  /-- A write to the read-only Status register. -/
  | writeStatus
  /-- A read of a write-only PPU register. -/
  | readWriteOnly
  deriving DecidableEq, Repr

/-- The reasons of a controlled stop (R44, R306). -/
inductive StopReason where
  | jam
  | brk
  deriving DecidableEq, Repr

/-- The reasons of a fatal error (R44, R302, R303). -/
inductive FaultReason where
  /-- A byte with no table row, and the address it was fetched from. -/
  | unknownOpcode (op : Byte) (opaddr : Word)
  /-- A forbidden bus access, with the full CPU address. -/
  | invalidAccess (kind : AccessKind) (addr : Word)
  deriving DecidableEq, Repr

/-- `status`, the run status of the core (R44). -/
inductive RunStatus where
  | running
  | stopped (reason : StopReason)
  | faulted (reason : FaultReason)
  deriving DecidableEq, Repr

/-- The PPU's registers, counters and memories (R35, R36). -/
structure Ppu where
  /-- `ppu.ctrl`, R331. -/
  ctrl : Byte
  /-- `ppu.mask`, R332. -/
  mask : Byte
  /-- `ppu.status`, R333. -/
  status : Byte
  /-- `ppu.oam_addr`, R335. -/
  oamAddr : Byte
  /-- `ppu.scroll_v`, R339. -/
  scrollV : Byte
  /-- `ppu.scroll_h`, R339. -/
  scrollH : Byte
  /-- `ppu.addr`, R340. -/
  addr : PpuAddr
  /-- `ppu.w`, the shared write latch: false = the next write is the first (R36, R40). -/
  w : Bool
  /-- `ppu.buf`, the read buffer (R39). -/
  buf : Byte
  /-- `ppu.nmi_pending` (R41). -/
  nmiPending : Bool
  /-- `ppu.cycle`, 0 to 340 (R37). -/
  cycle : Nat
  /-- `ppu.scanline`, 0 to 261 (R37). -/
  scanline : Nat
  /-- `VRAM`, 2048 bytes (R35). -/
  vram : Memory
  /-- `OAM`, 256 bytes (R35). -/
  oam : Memory
  /-- `PAL`, 32 bytes (R35). -/
  pal : Memory
  deriving DecidableEq, Repr

/-- The two program ROM sizes of R9. -/
inductive PrgSize where
  | k16
  | k32
  deriving DecidableEq, Repr

/-- `len(PRG_ROM)`. -/
def PrgSize.bytes : PrgSize → Nat
  | .k16 => 16384
  | .k32 => 32768

/-- The name-table layouts of an accepted cartridge (R345); FourScreen is refused at power-on (R9, D19). -/
inductive NtLayout where
  | horizontal
  | vertical
  deriving DecidableEq, Repr

/-- An accepted cartridge (R9): read-only, changed by no step (R46). -/
structure Rom where
  /-- `PRG_ROM`. -/
  prg : Memory
  /-- `len(PRG_ROM)`. -/
  prgSize : PrgSize
  /-- `CHR_ROM`, 8192 bytes. -/
  chr : Memory
  /-- `MIRRORING`. -/
  mirroring : NtLayout
  deriving DecidableEq, Repr

/-- The state of the block: the CPU's registers (R20 to R30), the run status (R44), RAM (R34), the PPU (R35, R36), the
cartridge and the parameters (R9, R11, constant: log 1, log 2), and the output `frame_done` (R18, log 8). -/
structure State where
  /-- `A`, R20. -/
  a : Byte
  /-- `X`, R20. -/
  x : Byte
  /-- `Y`, R20. -/
  y : Byte
  /-- `S`, the stack pointer, R22. -/
  s : Byte
  /-- `pc`, R23. -/
  pc : Word
  /-- `P`, R27. -/
  p : Byte
  /-- `status`, R44. -/
  status : RunStatus
  /-- `RAM`, 2048 bytes, R34. -/
  ram : Memory
  /-- The PPU. -/
  ppu : Ppu
  /-- The cartridge in the slot. -/
  rom : Rom
  /-- The parameters of R11. -/
  cfg : Params
  /-- The output `frame_done` of the most recent step (R18, R70): read by no rule. -/
  frameDone : Bool
  deriving DecidableEq, Repr

/-- Why a step answers `fault`: never. Every error the spec names is a terminal STATE that only reset leaves
(`status = Faulted(..)`, R44, R300, R303), so a faulting step answers the next state with that status (log 6). -/
inductive Fault where
  deriving DecidableEq, Repr

/-- Why the model refuses. No instruction is refused; the first four are raised by the power-on procedure for a
cartridge outside R9. -/
inductive Refusal where
  /-- Raised by exec's arm of an instruction that has no meaning yet; safe. No arm is left so. -/
  | notModelled (mnemonic : String)
  /-- Raised at power-on: `len(PRG_ROM)` is neither 16384 nor 32768 (R9, D29); safe. -/
  | cartridgePrgLength
  /-- Raised at power-on: `MAPPER` is not 0 (R9, D29); safe. -/
  | cartridgeMapper
  /-- Raised at power-on: `len(CHR_ROM)` is not 8192 (R9, D29); safe. -/
  | cartridgeChrLength
  /-- Raised at power-on: `MIRRORING = FourScreen` (R9, R345, D19); safe. -/
  | cartridgeFourScreen
  deriving DecidableEq, Repr

/-- The PPU at power-on (R36, D20); its memories are blank here, a DESIGN CHOICE (log 3). -/
def Ppu.powerOn : Ppu where
  ctrl := 0x00#8
  mask := 0x00#8
  status := 0x00#8
  oamAddr := 0x00#8
  scrollV := 0x00#8
  scrollH := 0x00#8
  addr := 0x0000#14
  w := false
  buf := 0x00#8
  nmiPending := false
  cycle := 0
  scanline := 0
  vram := []
  oam := []
  pal := []

/-- The blank cartridge of `State.reset`: 32 KiB of blank program ROM, blank character ROM, Horizontal mirroring.
DESIGN CHOICE (log 4; unsafe for a claim that rests on it): the spec leaves the cartridge to the host (R9). -/
def Rom.blank : Rom where
  prg := []
  prgSize := .k32
  chr := []
  mirroring := .horizontal

/-- The machine right after power-on and reset (R45, R380, R381) with the default parameters, the blank cartridge (log 4)
and blank memories (log 3). The pc is the little-endian word at the reset vector, bytes 0x7FFC and 0x7FFD of a 32 KiB
PRG_ROM (R26, R57). -/
def State.reset : State where
  a := 0x00#8
  x := 0x00#8
  y := 0x00#8
  s := 0xFD#8
  pc := joinBytes (memRead Rom.blank.prg 0x7FFD) (memRead Rom.blank.prg 0x7FFC)
  p := 0x24#8
  status := .running
  ram := []
  ppu := Ppu.powerOn
  rom := Rom.blank
  cfg := Params.standard
  frameDone := false

end Sys2Proof.Machine
end

