-- ==== Sys2Proof/Machine/PpuOps.lean ====
section
/-! DEFINITION. The PPU timing engine (R310 to R314) and the PPU register and memory operations (R330 to R346,
spec/60_exceptions.md). -/

namespace Sys2Proof.Machine

/-- Ends a scanline (R310): the counter moves on, scanline 241 starts vblank and requests the NMI if Control bit 7 is
set, scanline 262 wraps to 0, clears vblank, sprite-zero-hit and the request, and completes a frame. -/
def ppuEndLine (p : Ppu) : Ppu × Bool :=
  let line := p.scanline + 1
  if line = 241 then
    ({ p with
        cycle := 0
        scanline := line
        status := p.status ||| 0x80#8
        nmiPending := p.nmiPending || p.ctrl.getLsbD 7 }, false)
  else if line = 262 then
    ({ p with cycle := 0, scanline := 0, status := p.status &&& 0x3F#8, nmiPending := false }, true)
  else ({ p with cycle := 0, scanline := line }, false)

/-- `PpuCycle()`, R310: one PPU cycle, and whether it completed a frame. -/
def ppuCycle (p : Ppu) : Ppu × Bool :=
  if p.cycle + 1 = 341 then ppuEndLine p else ({ p with cycle := p.cycle + 1 }, false)

/-- `n` PPU cycles, one at a time, and whether any of them completed a frame (R70, D12, D32). -/
def ppuRun : Nat → Ppu → Ppu × Bool
  | 0, p => (p, false)
  | n + 1, p => ((ppuRun n (ppuCycle p).1).1, (ppuCycle p).2 || (ppuRun n (ppuCycle p).1).2)

/-- The eight registers on the CPU bus (R54, R330). -/
inductive PpuReg where
  | control
  | mask
  | status
  | oamAddr
  | oamData
  | scroll
  | address
  | data
  deriving DecidableEq, Repr

/-- The register a CPU address in 0x2000 to 0x3FFF names: number `addr & 7` (R54, D5). -/
def ppuRegOf (addr : Word) : PpuReg :=
  match addr.toNat % 8 with
  | 0 => .control
  | 1 => .mask
  | 2 => .status
  | 3 => .oamAddr
  | 4 => .oamData
  | 5 => .scroll
  | 6 => .address
  | _ => .data

/-- The VRAM half a logical name table is backed by (R345, D47). -/
def ntHalf : NtLayout → Nat → Nat
  | .horizontal, nt => nt / 2
  | .vertical, nt => nt % 2

/-- `NtMap(a)`, R345: the VRAM index of a name-table address. -/
def ntMap (layout : NtLayout) (a : Nat) : Nat :=
  ntHalf layout ((a - 0x2000) % 0x1000 / 0x400) * 0x400 + (a - 0x2000) % 0x400

/-- Where a PPU address leads (R343). -/
inductive PpuCell where
  | chr (k : Nat)
  | vram (k : Nat)
  | pal (k : Nat)
  deriving DecidableEq, Repr

/-- The PPU address map of R343: pattern tables, name tables, their mirror, the palette. -/
def ppuMap (layout : NtLayout) (a : PpuAddr) : PpuCell :=
  if a.toNat < 0x2000 then .chr a.toNat
  else if a.toNat < 0x3000 then .vram (ntMap layout a.toNat)
  else if a.toNat < 0x3F00 then .vram (ntMap layout (a.toNat - 0x1000))
  else .pal (a.toNat % 0x20)

/-- `PpuMemRead(a)`, R343. -/
def ppuMemRead (rom : Rom) (p : Ppu) (a : PpuAddr) : Byte :=
  match ppuMap rom.mirroring a with
  | .chr k => memRead rom.chr k
  | .vram k => memRead p.vram k
  | .pal k => memRead p.pal k

/-- `PpuMemWrite(a, v)`, R343 and R344: a write to the pattern range is discarded. -/
def ppuMemWrite (rom : Rom) (a : PpuAddr) (v : Byte) (p : Ppu) : Ppu :=
  match ppuMap rom.mirroring a with
  | .chr _ => p
  | .vram k => { p with vram := memWrite p.vram k v }
  | .pal k => { p with pal := memWrite p.pal k v }

/-- `(ppu.addr + Inc()) & 0x3FFF`: 32 if Control bit 2 is set, else 1 (R331, R341). -/
def ppuNextAddr (p : Ppu) : PpuAddr := p.addr + (if p.ctrl.getLsbD 2 then 32#14 else 1#14)

/-- `CtrlWrite(v)`, R331: turning NMI-enable on while the vblank bit is set requests the NMI (R312). -/
def ctrlWrite (v : Byte) (p : Ppu) : Ppu :=
  { p with
    ctrl := v
    nmiPending := p.nmiPending || (!p.ctrl.getLsbD 7 && v.getLsbD 7 && p.status.getLsbD 7) }

/-- `MaskWrite(v)`, R332. -/
def maskWrite (v : Byte) (p : Ppu) : Ppu := { p with mask := v }

/-- `StatusRead()`, R334: the snapshot, then vblank cleared and the write latch reset. -/
def statusRead (p : Ppu) : Byte × Ppu := (p.status, { p with status := p.status &&& 0x7F#8, w := false })

/-- `OamAddrWrite(v)`, R335. -/
def oamAddrWrite (v : Byte) (p : Ppu) : Ppu := { p with oamAddr := v }

/-- `OamDataRead()`, R337: no side effect. -/
def oamDataRead (p : Ppu) : Byte := memRead p.oam p.oamAddr.toNat

/-- `OamDataWrite(v)`, R337: the cursor moves on, modulo 256. -/
def oamDataWrite (v : Byte) (p : Ppu) : Ppu :=
  { p with oam := memWrite p.oam p.oamAddr.toNat v, oamAddr := p.oamAddr + 1#8 }

/-- `ScrollWrite(v)`, R339: vertical first, then horizontal (D37). -/
def scrollWrite (v : Byte) (p : Ppu) : Ppu :=
  if p.w then { p with scrollH := v, w := false } else { p with scrollV := v, w := true }

/-- `AddrWrite(v)`, R340: high byte first, masked to 14 bits, then low byte. -/
def addrWrite (v : Byte) (p : Ppu) : Ppu :=
  if p.w then { p with addr := p.addr.extractLsb' 8 6 ++ v, w := false }
  else { p with addr := v.extractLsb' 0 6 ++ p.addr.extractLsb' 0 8, w := true }

/-- `DataRead()`, R341: palette bytes at once, every other byte one read late through the buffer. -/
def dataRead (rom : Rom) (p : Ppu) : Byte × Ppu :=
  if 0x3F00 ≤ p.addr.toNat then (memRead p.pal (p.addr.toNat % 0x20), { p with addr := ppuNextAddr p })
  else (p.buf, { p with buf := ppuMemRead rom p p.addr, addr := ppuNextAddr p })

/-- `DataWrite(v)`, R342. -/
def dataWrite (rom : Rom) (v : Byte) (p : Ppu) : Ppu := { ppuMemWrite rom p.addr v p with addr := ppuNextAddr p }

/-- What a PPU register read answers (R330): the byte and the PPU after it, or `none` where the register is
write-only (R55). -/
def ppuRegRead (rom : Rom) (p : Ppu) : PpuReg → Option (Byte × Ppu)
  | .status => some (statusRead p)
  | .oamData => some (oamDataRead p, p)
  | .data => some (dataRead rom p)
  | .control => none
  | .mask => none
  | .oamAddr => none
  | .scroll => none
  | .address => none

/-- What a PPU register write does (R330), or `none` where the register is read-only (R55). -/
def ppuRegWrite (rom : Rom) (v : Byte) (p : Ppu) : PpuReg → Option Ppu
  | .control => some (ctrlWrite v p)
  | .mask => some (maskWrite v p)
  | .status => none
  | .oamAddr => some (oamAddrWrite v p)
  | .oamData => some (oamDataWrite v p)
  | .scroll => some (scrollWrite v p)
  | .address => some (addrWrite v p)
  | .data => some (dataWrite rom v p)

/-- The read-only ports of the renderer (R18, R356): the memories, character ROM and Control bits 4 and 3. -/
structure RenderPorts where
  vram : Memory
  oam : Memory
  pal : Memory
  chr : Memory
  backgroundBank : Bool
  spriteBank : Bool
  deriving DecidableEq, Repr

/-- What the renderer may sample, once `frameDone` is set (R356). -/
def renderPorts (s : State) : RenderPorts where
  vram := s.ppu.vram
  oam := s.ppu.oam
  pal := s.ppu.pal
  chr := s.rom.chr
  backgroundBank := s.ppu.ctrl.getLsbD 4
  spriteBank := s.ppu.ctrl.getLsbD 3

end Sys2Proof.Machine
end

