-- ==== Sys2Proof/Machine/Ops.lean ====
section
/-! DEFINITION. The named operations every instruction is written with (R14): bus reads and writes (R60, R61), the stack,
`Tick` (R70), raising (R303, R305), taking an interrupt (R320) and returning from one (R196). -/

namespace Sys2Proof.Machine

/-- What a bus access, or a sequence of them, answers: a value and the state after it, or the terminal state a `raise`
ended the step in (R305). -/
inductive Access (α : Type) where
  | ok (v : α) (s : State)
  | raised (s : State)
  deriving DecidableEq, Repr

/-- The next access of a sequence, in the state the first one left; a raise ends the sequence (R67, R305). -/
def Access.andThen {α β : Type} (r : Access α) (k : α → State → Access β) : Access β :=
  match r with
  | .ok v s => k v s
  | .raised s => .raised s

/-- The state an access sequence ends in, whether or not it raised. -/
def Access.state {α : Type} : Access α → State
  | .ok _ s => s
  | .raised s => s

/-- The outcome of an instruction: a raise is a next state too, with a terminal status (R44, R305; log 6). -/
def settle (r : Access Unit) : Host.Outcome State Fault Refusal := .next r.state

/-- `raise InvalidAccess(kind, addr)` under the policy of R62 (D7): fatal ends the step with the status set and nothing
else changed (R303); ignore answers a default and changes nothing. -/
def violation {α : Type} (kind : AccessKind) (addr : Word) (default : α) (s : State) : Access α :=
  match s.cfg.invalidAccess with
  | .fatal => .raised { s with status := .faulted (.invalidAccess kind addr) }
  | .ignore => .ok default s

/-- `raise UnknownOpcode(op, opaddr)`, R302. -/
def raiseUnknownOpcode {α : Type} (op : Byte) (opaddr : Word) (s : State) : Access α :=
  .raised { s with status := .faulted (.unknownOpcode op opaddr) }

/-- `raise Stop(reason)`, R306. -/
def raiseStop {α : Type} (reason : StopReason) (s : State) : Access α :=
  .raised { s with status := .stopped reason }

/-- The four regions of the CPU address map (R52). -/
inductive Region where
  /-- RAM and its mirrors: the RAM index. -/
  | ram (k : Nat)
  /-- The PPU register window. -/
  | ppu (reg : PpuReg)
  /-- The unmapped range. -/
  | unmapped
  /-- The program ROM window: the PRG_ROM index. -/
  | rom (k : Nat)
  deriving DecidableEq, Repr

/-- The RAM cell an address in 0x0000 to 0x1FFF names: `addr & 0x07FF` (R53). -/
def ramIndex (addr : Word) : Nat := (addr &&& 0x07FF#16).toNat

/-- The program ROM window: 32 KiB from `PRG_BASE` (R52, R56, log 12). -/
def inRomWindow (base addr : Word) : Bool :=
  decide (base.toNat ≤ addr.toNat) && decide (addr.toNat - base.toNat < 0x8000)

/-- The PRG_ROM index of an address in the window: `(addr - PRG_BASE) mod len(PRG_ROM)` (R56). -/
def romIndex (base : Word) (size : PrgSize) (addr : Word) : Nat := (addr.toNat - base.toNat) % size.bytes

/-- The bus decoder (R52 to R56, R59). -/
def regionOf (s : State) (addr : Word) : Region :=
  if addr.toNat < 0x2000 then .ram (ramIndex addr)
  else if addr.toNat < 0x4000 then .ppu (ppuRegOf addr)
  else if inRomWindow s.cfg.prgBase addr then .rom (romIndex s.cfg.prgBase s.rom.prgSize addr)
  else .unmapped

/-- `BusRead(addr)`, R60. -/
def busRead (addr : Word) (s : State) : Access Byte :=
  match regionOf s addr with
  | .ram k => .ok (memRead s.ram k) s
  | .ppu reg =>
    match ppuRegRead s.rom s.ppu reg with
    | some (v, p) => .ok v { s with ppu := p }
    | none => violation .readWriteOnly addr 0x00#8 s
  | .unmapped => .ok s.cfg.unmappedRead s
  | .rom k => .ok (memRead s.rom.prg k) s

/-- `BusWrite(addr, v)`, R61. -/
def busWrite (addr : Word) (v : Byte) (s : State) : Access Unit :=
  match regionOf s addr with
  | .ram k => .ok () { s with ram := memWrite s.ram k v }
  | .ppu reg =>
    match ppuRegWrite s.rom v s.ppu reg with
    | some p => .ok () { s with ppu := p }
    | none => violation .writeStatus addr () s
  | .unmapped => .ok () s
  | .rom _ => violation .writeRom addr () s

/-- Two byte reads joined, `lo` first (R14, R50). -/
def busReadPair (lo hi : Word) (s : State) : Access Word :=
  (busRead lo s).andThen fun l s => (busRead hi s).andThen fun h s => .ok (joinBytes h l) s

/-- `MemRead(addr, 2)`: low address first, the second address modulo 65536 (R14, R50, D23). -/
def busRead16 (addr : Word) (s : State) : Access Word := busReadPair addr (addr + 1#16) s

/-- `MemWrite(addr, 2, v)`: the low byte at `addr`, then the high byte at the next address modulo 65536 (R14, R50, D23).
No instruction uses it (R63). -/
def busWrite16 (addr w : Word) (s : State) : Access Unit :=
  (busWrite addr (lowByte w) s).andThen fun _ s => busWrite (addr + 1#16) (highByte w) s

/-- The cell the stack pointer names, `STACK_BASE + S` (R22). -/
def stackAddr (s : State) : Word := s.cfg.stackBase + zeroExtend16 s.s

/-- `Push8(v)`: write, then decrement S modulo 256 (R14, R22). -/
def push8 (v : Byte) (s : State) : Access Unit :=
  (busWrite (stackAddr s) v s).andThen fun _ s => .ok () { s with s := s.s - 1#8 }

/-- `Pull8()`: increment S modulo 256, then read (R14, R22). -/
def pull8 (s : State) : Access Byte :=
  busRead (stackAddr { s with s := s.s + 1#8 }) { s with s := s.s + 1#8 }

/-- `Push16(w)`: high byte first, then low byte (R14, R51). -/
def push16 (w : Word) (s : State) : Access Unit :=
  (push8 (highByte w) s).andThen fun _ s => push8 (lowByte w) s

/-- `Pull16()`: low byte first, then high byte (R14). -/
def pull16 (s : State) : Access Word :=
  (pull8 s).andThen fun l s => (pull8 s).andThen fun h s => .ok (joinBytes h l) s

/-- `Tick(n)`, R70: 3n PPU cycles; a completed frame is raised on the output `frameDone` (log 8). -/
def tick (n : Nat) (s : State) : State :=
  { s with ppu := (ppuRun (3 * n) s.ppu).1, frameDone := s.frameDone || (ppuRun (3 * n) s.ppu).2 }

/-- The two interrupt descriptors (R315). -/
inductive Descriptor where
  | nmi
  | brk
  deriving DecidableEq, Repr

/-- A descriptor's vector address (R315, D2). -/
def descriptorVector (cfg : Params) : Descriptor → Word
  | .nmi => cfg.vecNmi
  | .brk => cfg.vecBrk

/-- A descriptor's Break mask: what bits 5:4 of the pushed status are (R315, D11). -/
def descriptorMask : Descriptor → Byte
  | .nmi => 0x20#8
  | .brk => 0x30#8

/-- A descriptor's cycle cost (R315, D11). -/
def descriptorCycles (cfg : Params) : Descriptor → Nat
  | .nmi => cfg.nmiCycles
  | .brk => cfg.brkCycles

/-- `InterruptEntry(d)`, R320: push pc, push status with the descriptor's mask, set I, tick, load pc from the vector. -/
def interruptEntry (d : Descriptor) (s : State) : Access Unit :=
  (push16 s.pc s).andThen fun _ s =>
  (push8 (pushedStatus (descriptorMask d) s.p) s).andThen fun _ s =>
  (busRead16 (descriptorVector s.cfg d)
    (tick (descriptorCycles s.cfg d) { s with p := setFlag .i true s.p })).andThen fun target s =>
  .ok () { s with pc := target }

/-- The return from an interrupt (R196, R323): pull the status, then the return address plus `RTI_PC_ADJUST`. -/
def returnFromInterrupt (s : State) : Access Unit :=
  (pull8 s).andThen fun b s =>
  (pull16 { s with p := pulledStatus b }).andThen fun w s =>
  .ok () { s with pc := w + BitVec.ofNat 16 s.cfg.rtiPcAdjust.val }

/-- The NMI poll, the first action of a step (R350): a pending request is consumed and entered. -/
def pollNmi (s : State) : Access Unit :=
  if s.ppu.nmiPending then interruptEntry .nmi { s with ppu := { s.ppu with nmiPending := false } }
  else .ok () s

/-- The cycle cost of a table row: base cycles and whether a page cross adds one (R114, R121). -/
structure Cost where
  cycles : Nat
  pageCross : Bool
  deriving DecidableEq, Repr

/-- The cost of an opcode's row (R95, R96, R120). -/
def costOf (op : Byte) : Cost :=
  match opcodeRow op with
  | some row => { cycles := row.cycles, pageCross := row.pageCross }
  | none => { cycles := 0, pageCross := false }

/-- `row.cycles + (1 if row.page_cross_penalty and crossed else 0)`, R120 and R121. -/
def Cost.total (c : Cost) (crossed : Bool) : Nat := c.cycles + (c.pageCross && crossed).toNat

/-- The end of an instruction that does not write pc (R24, R120): pc, which stands at `opaddr + 1`, moves past the
`operandBytes` operand bytes, and the cycles are ticked. -/
def complete (operandBytes cycles : Nat) (s : State) : State :=
  tick cycles { s with pc := s.pc + BitVec.ofNat 16 operandBytes }

end Sys2Proof.Machine
end

