-- ==== Sys2Proof/Machine/Operands.lean ====
section
/-! DEFINITION. The addressing modes (R100 to R113) and the shapes of instruction built on them: implied, accumulator,
immediate, read, store, read-modify-write and branch. The operand bytes themselves were fetched with the instruction
(log 10). -/

namespace Sys2Proof.Machine

/-- What a memory mode resolves to: the unindexed base address, the effective address, and the page-crossed boolean. -/
structure Place where
  base : Word
  ea : Word
  crossed : Bool
  deriving DecidableEq, Repr

/-- A mode without an index into a 16-bit base: `crossed = false`. -/
def directPlace (ea : Word) : Place := { base := ea, ea := ea, crossed := false }

/-- `(base + index) mod 65536`, crossed when the high byte changes (R107, R108, R111). -/
def indexedPlace (base : Word) (index : Byte) : Place :=
  { base := base
    ea := base + zeroExtend16 index
    crossed := pageDiffers (base + zeroExtend16 index) base }

/-- The address of a page-0 byte: sums of page-0 bytes wrap modulo 256 (R103 to R105, R110, R113, D24). -/
def zeroPageAddr (b : Byte) : Word := zeroExtend16 b

/-- The pointer at page-0 offset `p`, its high byte at `(p + 1) mod 256` (R110, R111, D24). -/
def readZeroPagePointer (p : Byte) (s : State) : Access Word :=
  busReadPair (zeroPageAddr p) (zeroPageAddr (p + 1#8)) s

/-- Resolves a memory mode, R103 to R108, R110, R111. -/
def resolve (m : MemForm) (s : State) : Access Place :=
  match m with
  | .zeroPage zp => .ok (directPlace (zeroPageAddr zp)) s
  | .zeroPageX zp => .ok (directPlace (zeroPageAddr (zp + s.x))) s
  | .zeroPageY zp => .ok (directPlace (zeroPageAddr (zp + s.y))) s
  | .absolute addr => .ok (directPlace addr) s
  | .absoluteX addr => .ok (indexedPlace addr s.x) s
  | .absoluteY addr => .ok (indexedPlace addr s.y) s
  | .indirectX zp => (readZeroPagePointer (zp + s.x) s).andThen fun w s => .ok (directPlace w) s
  | .indirectY zp => (readZeroPagePointer zp s).andThen fun w s => .ok (indexedPlace w s.y) s

/-- Where JMP-indirect's second pointer byte is read: within the pointer's page (R109). -/
def indirectHighAddr (ptr : Word) : Word := joinBytes (highByte ptr) (lowByte (ptr + 1#16))

/-- The Indirect mode of JMP with its page-boundary wrap, R109. -/
def resolveIndirect (ptr : Word) (s : State) : Access Word := busReadPair ptr (indirectHighAddr ptr) s

/-- The target of a branch, R112: the offset counts from the address of the next instruction. -/
def branchTarget (next : Word) (rel : Byte) : Word := next + signExtend16 rel

/-- `branch_extra` of a taken branch, R193: 1, and 1 more across a page. -/
def branchExtra (next target : Word) : Nat := 1 + (pageDiffers target next).toNat

/-- An Implied or Accumulator instruction that only changes registers or flags (R100, R101). -/
def impliedForm (c : Cost) (effect : State → State) (s : State) : Host.Outcome State Fault Refusal :=
  .next (complete 0 (c.total false) (effect s))

/-- An Immediate instruction: the operand byte is the value (R102). -/
def immediateForm (imm : Byte) (c : Cost) (effect : Byte → State → State) (s : State) :
    Host.Outcome State Fault Refusal :=
  .next (complete 1 (c.total false) (effect imm s))

/-- An instruction that reads its memory operand: resolve, one read, the effect, then pc and Tick (R66, R67, R120). -/
def readForm (m : MemForm) (c : Cost) (effect : Byte → State → State) (s : State) :
    Host.Outcome State Fault Refusal :=
  settle ((resolve m s).andThen fun pl s =>
    (busRead pl.ea s).andThen fun v s =>
    .ok () (complete (m.mode.length - 1) (c.total pl.crossed) (effect v s)))

/-- A store: resolve, one write of a value computed from the registers, no read of the cell (R66, R133). `before` is
what the instruction does to the registers before the write. -/
def storeForm (m : MemForm) (c : Cost) (before : State → State) (value : Place → State → Byte) (s : State) :
    Host.Outcome State Fault Refusal :=
  settle ((resolve m s).andThen fun pl s =>
    (busWrite pl.ea (value pl (before s)) (before s)).andThen fun _ s =>
    .ok () (complete (m.mode.length - 1) (c.total pl.crossed) s))

/-- A read-modify-write instruction: one read, the result written back, then registers and flags (R66, R240, R305).
`result` gets the byte read, `effect` the byte read and the byte written. -/
def rmwForm (m : MemForm) (c : Cost) (result : Byte → State → Byte) (effect : Byte → Byte → State → State)
    (s : State) : Host.Outcome State Fault Refusal :=
  settle ((resolve m s).andThen fun pl s =>
    (busRead pl.ea s).andThen fun v s =>
    (busWrite pl.ea (result v s) s).andThen fun _ s' =>
    .ok () (complete (m.mode.length - 1) (c.total pl.crossed) (effect v (result v s) s')))

/-- `Branch(cond)`, R193. On entry pc is `opaddr + 1`, so the next instruction is at `pc + 1`. -/
def branchForm (rel : Byte) (c : Cost) (taken : Bool) (s : State) : Host.Outcome State Fault Refusal :=
  if taken then
    .next (tick (c.cycles + branchExtra (s.pc + 1#16) (branchTarget (s.pc + 1#16) rel))
      { s with pc := branchTarget (s.pc + 1#16) rel })
  else .next (complete 1 c.cycles s)

end Sys2Proof.Machine
end

