-- ==== Sys2Proof/Machine/Arithmetic.lean ====
section
/-! DEFINITION. Add, subtract, compare, logic, BIT, increment and decrement (spec/41_arithmetic_logic.md, R150 to R176). -/

namespace Sys2Proof.Machine

/-- A and the flags C, V, Z, N from the adder (R151, R152). -/
def addToA (m : Byte) (c : Nat) (s : State) : State :=
  { s with a := (addCore s.a m c).result, p := sumFlags (addCore s.a m c) s.p }

/-- ADC: `AddCore(A, M, P.C)`, binary whatever P.D is (R151, R174). -/
def adcEffect (m : Byte) (s : State) : State := addToA m (carryIn s.p) s

/-- SBC: `AddCore(A, M ^ 0xFF, P.C)`, R152. -/
def sbcEffect (m : Byte) (s : State) : State := addToA (m ^^^ 0xFF#8) (carryIn s.p) s

/-- CMP: `Compare(A, M)`, R154. -/
def cmpEffect (m : Byte) (s : State) : State := { s with p := compareFlags s.a m s.p }

/-- CPX: `Compare(X, M)`, R155. -/
def cpxEffect (m : Byte) (s : State) : State := { s with p := compareFlags s.x m s.p }

/-- CPY: `Compare(Y, M)`, R156. -/
def cpyEffect (m : Byte) (s : State) : State := { s with p := compareFlags s.y m s.p }

/-- AND: `A <- A & M; SetZN(A)`, R157. -/
def andEffect (m : Byte) (s : State) : State := { s with a := s.a &&& m, p := setZN (s.a &&& m) s.p }

/-- ORA: `A <- A | M; SetZN(A)`, R158. -/
def oraEffect (m : Byte) (s : State) : State := { s with a := s.a ||| m, p := setZN (s.a ||| m) s.p }

/-- EOR: `A <- A ^ M; SetZN(A)`, R159. -/
def eorEffect (m : Byte) (s : State) : State := { s with a := s.a ^^^ m, p := setZN (s.a ^^^ m) s.p }

/-- BIT, R160: only Z, N and V. -/
def bitEffect (m : Byte) (s : State) : State := { s with p := bitFlags s.a m s.p }

/-- INC's result, R161. -/
def incResult (v : Byte) (_ : State) : Byte := v + 1#8

/-- INC's flags, from the byte written, R161. -/
def incEffect (_ r : Byte) (s : State) : State := { s with p := setZN r s.p }

/-- DEC's result, R162. -/
def decResult (v : Byte) (_ : State) : Byte := v - 1#8

/-- DEC's flags, from the byte written, R162. -/
def decEffect (_ r : Byte) (s : State) : State := { s with p := setZN r s.p }

/-- INX, R163. -/
def inxEffect (s : State) : State := { s with x := s.x + 1#8, p := setZN (s.x + 1#8) s.p }

/-- INY, R164. -/
def inyEffect (s : State) : State := { s with y := s.y + 1#8, p := setZN (s.y + 1#8) s.p }

/-- DEX, R165. -/
def dexEffect (s : State) : State := { s with x := s.x - 1#8, p := setZN (s.x - 1#8) s.p }

/-- DEY, R166. -/
def deyEffect (s : State) : State := { s with y := s.y - 1#8, p := setZN (s.y - 1#8) s.p }

/-- `ADC (zp,X)`, opcode 61 (R151, R110). -/
def execAdcIndX (zp : Byte) (s : State) : Host.Outcome State Fault Refusal :=
  readForm (.indirectX zp) (costOf 0x61#8) adcEffect s

/-- `ADC zp`, opcode 65 (R151, R103). -/
def execAdcZp (zp : Byte) (s : State) : Host.Outcome State Fault Refusal :=
  readForm (.zeroPage zp) (costOf 0x65#8) adcEffect s

/-- `ADC #imm`, opcode 69 (R151, R102). -/
def execAdcImm (imm : Byte) (s : State) : Host.Outcome State Fault Refusal :=
  immediateForm imm (costOf 0x69#8) adcEffect s

/-- `ADC addr`, opcode 6D (R151, R106). -/
def execAdcAbs (addr : Word) (s : State) : Host.Outcome State Fault Refusal :=
  readForm (.absolute addr) (costOf 0x6D#8) adcEffect s

/-- `ADC (zp),Y`, opcode 71 (R151, R111). -/
def execAdcIndY (zp : Byte) (s : State) : Host.Outcome State Fault Refusal :=
  readForm (.indirectY zp) (costOf 0x71#8) adcEffect s

/-- `ADC zp,X`, opcode 75 (R151, R104). -/
def execAdcZpX (zp : Byte) (s : State) : Host.Outcome State Fault Refusal :=
  readForm (.zeroPageX zp) (costOf 0x75#8) adcEffect s

/-- `ADC addr,Y`, opcode 79 (R151, R108). -/
def execAdcAbsY (addr : Word) (s : State) : Host.Outcome State Fault Refusal :=
  readForm (.absoluteY addr) (costOf 0x79#8) adcEffect s

/-- `ADC addr,X`, opcode 7D (R151, R107). -/
def execAdcAbsX (addr : Word) (s : State) : Host.Outcome State Fault Refusal :=
  readForm (.absoluteX addr) (costOf 0x7D#8) adcEffect s

/-- `SBC (zp,X)`, opcode E1 (R152, R110). -/
def execSbcIndX (zp : Byte) (s : State) : Host.Outcome State Fault Refusal :=
  readForm (.indirectX zp) (costOf 0xE1#8) sbcEffect s

/-- `SBC zp`, opcode E5 (R152, R103). -/
def execSbcZp (zp : Byte) (s : State) : Host.Outcome State Fault Refusal :=
  readForm (.zeroPage zp) (costOf 0xE5#8) sbcEffect s

/-- `SBC #imm`, opcode E9 (R152, R102). -/
def execSbcImm (imm : Byte) (s : State) : Host.Outcome State Fault Refusal :=
  immediateForm imm (costOf 0xE9#8) sbcEffect s

/-- `SBC addr`, opcode ED (R152, R106). -/
def execSbcAbs (addr : Word) (s : State) : Host.Outcome State Fault Refusal :=
  readForm (.absolute addr) (costOf 0xED#8) sbcEffect s

/-- `SBC (zp),Y`, opcode F1 (R152, R111). -/
def execSbcIndY (zp : Byte) (s : State) : Host.Outcome State Fault Refusal :=
  readForm (.indirectY zp) (costOf 0xF1#8) sbcEffect s

/-- `SBC zp,X`, opcode F5 (R152, R104). -/
def execSbcZpX (zp : Byte) (s : State) : Host.Outcome State Fault Refusal :=
  readForm (.zeroPageX zp) (costOf 0xF5#8) sbcEffect s

/-- `SBC addr,Y`, opcode F9 (R152, R108). -/
def execSbcAbsY (addr : Word) (s : State) : Host.Outcome State Fault Refusal :=
  readForm (.absoluteY addr) (costOf 0xF9#8) sbcEffect s

/-- `SBC addr,X`, opcode FD (R152, R107). -/
def execSbcAbsX (addr : Word) (s : State) : Host.Outcome State Fault Refusal :=
  readForm (.absoluteX addr) (costOf 0xFD#8) sbcEffect s

/-- `CMP (zp,X)`, opcode C1 (R154, R110). -/
def execCmpIndX (zp : Byte) (s : State) : Host.Outcome State Fault Refusal :=
  readForm (.indirectX zp) (costOf 0xC1#8) cmpEffect s

/-- `CMP zp`, opcode C5 (R154, R103). -/
def execCmpZp (zp : Byte) (s : State) : Host.Outcome State Fault Refusal :=
  readForm (.zeroPage zp) (costOf 0xC5#8) cmpEffect s

/-- `CMP #imm`, opcode C9 (R154, R102). -/
def execCmpImm (imm : Byte) (s : State) : Host.Outcome State Fault Refusal :=
  immediateForm imm (costOf 0xC9#8) cmpEffect s

/-- `CMP addr`, opcode CD (R154, R106). -/
def execCmpAbs (addr : Word) (s : State) : Host.Outcome State Fault Refusal :=
  readForm (.absolute addr) (costOf 0xCD#8) cmpEffect s

/-- `CMP (zp),Y`, opcode D1 (R154, R111). -/
def execCmpIndY (zp : Byte) (s : State) : Host.Outcome State Fault Refusal :=
  readForm (.indirectY zp) (costOf 0xD1#8) cmpEffect s

/-- `CMP zp,X`, opcode D5 (R154, R104). -/
def execCmpZpX (zp : Byte) (s : State) : Host.Outcome State Fault Refusal :=
  readForm (.zeroPageX zp) (costOf 0xD5#8) cmpEffect s

/-- `CMP addr,Y`, opcode D9 (R154, R108). -/
def execCmpAbsY (addr : Word) (s : State) : Host.Outcome State Fault Refusal :=
  readForm (.absoluteY addr) (costOf 0xD9#8) cmpEffect s

/-- `CMP addr,X`, opcode DD (R154, R107). -/
def execCmpAbsX (addr : Word) (s : State) : Host.Outcome State Fault Refusal :=
  readForm (.absoluteX addr) (costOf 0xDD#8) cmpEffect s

/-- `CPX #imm`, opcode E0 (R155, R102). -/
def execCpxImm (imm : Byte) (s : State) : Host.Outcome State Fault Refusal :=
  immediateForm imm (costOf 0xE0#8) cpxEffect s

/-- `CPX zp`, opcode E4 (R155, R103). -/
def execCpxZp (zp : Byte) (s : State) : Host.Outcome State Fault Refusal :=
  readForm (.zeroPage zp) (costOf 0xE4#8) cpxEffect s

/-- `CPX addr`, opcode EC (R155, R106). -/
def execCpxAbs (addr : Word) (s : State) : Host.Outcome State Fault Refusal :=
  readForm (.absolute addr) (costOf 0xEC#8) cpxEffect s

/-- `CPY #imm`, opcode C0 (R156, R102). -/
def execCpyImm (imm : Byte) (s : State) : Host.Outcome State Fault Refusal :=
  immediateForm imm (costOf 0xC0#8) cpyEffect s

/-- `CPY zp`, opcode C4 (R156, R103). -/
def execCpyZp (zp : Byte) (s : State) : Host.Outcome State Fault Refusal :=
  readForm (.zeroPage zp) (costOf 0xC4#8) cpyEffect s

/-- `CPY addr`, opcode CC (R156, R106). -/
def execCpyAbs (addr : Word) (s : State) : Host.Outcome State Fault Refusal :=
  readForm (.absolute addr) (costOf 0xCC#8) cpyEffect s

/-- `AND (zp,X)`, opcode 21 (R157, R110). -/
def execAndIndX (zp : Byte) (s : State) : Host.Outcome State Fault Refusal :=
  readForm (.indirectX zp) (costOf 0x21#8) andEffect s

/-- `AND zp`, opcode 25 (R157, R103). -/
def execAndZp (zp : Byte) (s : State) : Host.Outcome State Fault Refusal :=
  readForm (.zeroPage zp) (costOf 0x25#8) andEffect s

/-- `AND #imm`, opcode 29 (R157, R102). -/
def execAndImm (imm : Byte) (s : State) : Host.Outcome State Fault Refusal :=
  immediateForm imm (costOf 0x29#8) andEffect s

/-- `AND addr`, opcode 2D (R157, R106). -/
def execAndAbs (addr : Word) (s : State) : Host.Outcome State Fault Refusal :=
  readForm (.absolute addr) (costOf 0x2D#8) andEffect s

/-- `AND (zp),Y`, opcode 31 (R157, R111). -/
def execAndIndY (zp : Byte) (s : State) : Host.Outcome State Fault Refusal :=
  readForm (.indirectY zp) (costOf 0x31#8) andEffect s

/-- `AND zp,X`, opcode 35 (R157, R104). -/
def execAndZpX (zp : Byte) (s : State) : Host.Outcome State Fault Refusal :=
  readForm (.zeroPageX zp) (costOf 0x35#8) andEffect s

/-- `AND addr,Y`, opcode 39 (R157, R108). -/
def execAndAbsY (addr : Word) (s : State) : Host.Outcome State Fault Refusal :=
  readForm (.absoluteY addr) (costOf 0x39#8) andEffect s

/-- `AND addr,X`, opcode 3D (R157, R107). -/
def execAndAbsX (addr : Word) (s : State) : Host.Outcome State Fault Refusal :=
  readForm (.absoluteX addr) (costOf 0x3D#8) andEffect s

/-- `ORA (zp,X)`, opcode 01 (R158, R110). -/
def execOraIndX (zp : Byte) (s : State) : Host.Outcome State Fault Refusal :=
  readForm (.indirectX zp) (costOf 0x01#8) oraEffect s

/-- `ORA zp`, opcode 05 (R158, R103). -/
def execOraZp (zp : Byte) (s : State) : Host.Outcome State Fault Refusal :=
  readForm (.zeroPage zp) (costOf 0x05#8) oraEffect s

/-- `ORA #imm`, opcode 09 (R158, R102). -/
def execOraImm (imm : Byte) (s : State) : Host.Outcome State Fault Refusal :=
  immediateForm imm (costOf 0x09#8) oraEffect s

/-- `ORA addr`, opcode 0D (R158, R106). -/
def execOraAbs (addr : Word) (s : State) : Host.Outcome State Fault Refusal :=
  readForm (.absolute addr) (costOf 0x0D#8) oraEffect s

/-- `ORA (zp),Y`, opcode 11 (R158, R111). -/
def execOraIndY (zp : Byte) (s : State) : Host.Outcome State Fault Refusal :=
  readForm (.indirectY zp) (costOf 0x11#8) oraEffect s

/-- `ORA zp,X`, opcode 15 (R158, R104). -/
def execOraZpX (zp : Byte) (s : State) : Host.Outcome State Fault Refusal :=
  readForm (.zeroPageX zp) (costOf 0x15#8) oraEffect s

/-- `ORA addr,Y`, opcode 19 (R158, R108). -/
def execOraAbsY (addr : Word) (s : State) : Host.Outcome State Fault Refusal :=
  readForm (.absoluteY addr) (costOf 0x19#8) oraEffect s

/-- `ORA addr,X`, opcode 1D (R158, R107). -/
def execOraAbsX (addr : Word) (s : State) : Host.Outcome State Fault Refusal :=
  readForm (.absoluteX addr) (costOf 0x1D#8) oraEffect s

/-- `EOR (zp,X)`, opcode 41 (R159, R110). -/
def execEorIndX (zp : Byte) (s : State) : Host.Outcome State Fault Refusal :=
  readForm (.indirectX zp) (costOf 0x41#8) eorEffect s

/-- `EOR zp`, opcode 45 (R159, R103). -/
def execEorZp (zp : Byte) (s : State) : Host.Outcome State Fault Refusal :=
  readForm (.zeroPage zp) (costOf 0x45#8) eorEffect s

/-- `EOR #imm`, opcode 49 (R159, R102). -/
def execEorImm (imm : Byte) (s : State) : Host.Outcome State Fault Refusal :=
  immediateForm imm (costOf 0x49#8) eorEffect s

/-- `EOR addr`, opcode 4D (R159, R106). -/
def execEorAbs (addr : Word) (s : State) : Host.Outcome State Fault Refusal :=
  readForm (.absolute addr) (costOf 0x4D#8) eorEffect s

/-- `EOR (zp),Y`, opcode 51 (R159, R111). -/
def execEorIndY (zp : Byte) (s : State) : Host.Outcome State Fault Refusal :=
  readForm (.indirectY zp) (costOf 0x51#8) eorEffect s

/-- `EOR zp,X`, opcode 55 (R159, R104). -/
def execEorZpX (zp : Byte) (s : State) : Host.Outcome State Fault Refusal :=
  readForm (.zeroPageX zp) (costOf 0x55#8) eorEffect s

/-- `EOR addr,Y`, opcode 59 (R159, R108). -/
def execEorAbsY (addr : Word) (s : State) : Host.Outcome State Fault Refusal :=
  readForm (.absoluteY addr) (costOf 0x59#8) eorEffect s

/-- `EOR addr,X`, opcode 5D (R159, R107). -/
def execEorAbsX (addr : Word) (s : State) : Host.Outcome State Fault Refusal :=
  readForm (.absoluteX addr) (costOf 0x5D#8) eorEffect s

/-- `BIT zp`, opcode 24 (R160, R103). -/
def execBitZp (zp : Byte) (s : State) : Host.Outcome State Fault Refusal :=
  readForm (.zeroPage zp) (costOf 0x24#8) bitEffect s

/-- `BIT addr`, opcode 2C (R160, R106). -/
def execBitAbs (addr : Word) (s : State) : Host.Outcome State Fault Refusal :=
  readForm (.absolute addr) (costOf 0x2C#8) bitEffect s

/-- `INC zp`, opcode E6 (R161, R103). -/
def execIncZp (zp : Byte) (s : State) : Host.Outcome State Fault Refusal :=
  rmwForm (.zeroPage zp) (costOf 0xE6#8) incResult incEffect s

/-- `INC addr`, opcode EE (R161, R106). -/
def execIncAbs (addr : Word) (s : State) : Host.Outcome State Fault Refusal :=
  rmwForm (.absolute addr) (costOf 0xEE#8) incResult incEffect s

/-- `INC zp,X`, opcode F6 (R161, R104). -/
def execIncZpX (zp : Byte) (s : State) : Host.Outcome State Fault Refusal :=
  rmwForm (.zeroPageX zp) (costOf 0xF6#8) incResult incEffect s

/-- `INC addr,X`, opcode FE (R161, R107). -/
def execIncAbsX (addr : Word) (s : State) : Host.Outcome State Fault Refusal :=
  rmwForm (.absoluteX addr) (costOf 0xFE#8) incResult incEffect s

/-- `DEC zp`, opcode C6 (R162, R103). -/
def execDecZp (zp : Byte) (s : State) : Host.Outcome State Fault Refusal :=
  rmwForm (.zeroPage zp) (costOf 0xC6#8) decResult decEffect s

/-- `DEC addr`, opcode CE (R162, R106). -/
def execDecAbs (addr : Word) (s : State) : Host.Outcome State Fault Refusal :=
  rmwForm (.absolute addr) (costOf 0xCE#8) decResult decEffect s

/-- `DEC zp,X`, opcode D6 (R162, R104). -/
def execDecZpX (zp : Byte) (s : State) : Host.Outcome State Fault Refusal :=
  rmwForm (.zeroPageX zp) (costOf 0xD6#8) decResult decEffect s

/-- `DEC addr,X`, opcode DE (R162, R107). -/
def execDecAbsX (addr : Word) (s : State) : Host.Outcome State Fault Refusal :=
  rmwForm (.absoluteX addr) (costOf 0xDE#8) decResult decEffect s

/-- `INX`, opcode E8 (R163, R100). -/
def execInx (s : State) : Host.Outcome State Fault Refusal :=
  impliedForm (costOf 0xE8#8) inxEffect s

/-- `INY`, opcode C8 (R164, R100). -/
def execIny (s : State) : Host.Outcome State Fault Refusal :=
  impliedForm (costOf 0xC8#8) inyEffect s

/-- `DEX`, opcode CA (R165, R100). -/
def execDex (s : State) : Host.Outcome State Fault Refusal :=
  impliedForm (costOf 0xCA#8) dexEffect s

/-- `DEY`, opcode 88 (R166, R100). -/
def execDey (s : State) : Host.Outcome State Fault Refusal :=
  impliedForm (costOf 0x88#8) deyEffect s

end Sys2Proof.Machine
end

