-- ==== Sys2Proof/Machine/Control.lean ====
section
/-! DEFINITION. Control transfer, NOP, BRK and RTI (spec/43_control_flow.md, R190 to R206). On entry pc is `opaddr + 1`. -/

namespace Sys2Proof.Machine

/-- JMP to an address, R190. -/
def jumpTo (target : Word) (c : Cost) (s : State) : Host.Outcome State Fault Refusal :=
  .next (tick c.cycles { s with pc := target })

/-- JMP through a pointer with the page wrap, R109 and R190. -/
def jumpIndirect (ptr : Word) (c : Cost) (s : State) : Host.Outcome State Fault Refusal :=
  settle ((resolveIndirect ptr s).andThen fun target s => .ok () (tick c.cycles { s with pc := target }))

/-- JSR, R191: pushes `opaddr + 2`, the address of its own last byte, then jumps. -/
def callSubroutine (target : Word) (c : Cost) (s : State) : Host.Outcome State Fault Refusal :=
  settle ((push16 (s.pc + 1#16) s).andThen fun _ s => .ok () (tick c.cycles { s with pc := target }))

/-- RTS, R192: the pulled word plus 1. -/
def returnFromSubroutine (c : Cost) (s : State) : Host.Outcome State Fault Refusal :=
  settle ((pull16 s).andThen fun w s => .ok () (tick c.cycles { s with pc := w + 1#16 }))

/-- RTI, R196. -/
def returnFromInterruptForm (c : Cost) (s : State) : Host.Outcome State Fault Refusal :=
  settle ((returnFromInterrupt s).andThen fun _ s => .ok () (tick c.cycles s))

/-- BRK, R197: with I = 0 the interrupt entry (the pushed pc is `opaddr + 1`), with I = 1 the controlled stop. -/
def softwareBreak (c : Cost) (s : State) : Host.Outcome State Fault Refusal :=
  if getFlag .i s.p then settle (raiseStop .brk s)
  else settle ((interruptEntry .brk s).andThen fun _ s => .ok () (tick c.cycles s))

/-- BCC: `P.C == 0`, R198. -/
def bccTaken (s : State) : Bool := !getFlag .c s.p

/-- BCS: `P.C == 1`, R199. -/
def bcsTaken (s : State) : Bool := getFlag .c s.p

/-- BEQ: `P.Z == 1`, R200. -/
def beqTaken (s : State) : Bool := getFlag .z s.p

/-- BNE: `P.Z == 0`, R201. -/
def bneTaken (s : State) : Bool := !getFlag .z s.p

/-- BMI: `P.N == 1`, R202. -/
def bmiTaken (s : State) : Bool := getFlag .n s.p

/-- BPL: `P.N == 0`, R203. -/
def bplTaken (s : State) : Bool := !getFlag .n s.p

/-- BVC: `P.V == 0`, R204. -/
def bvcTaken (s : State) : Bool := !getFlag .v s.p

/-- BVS: `P.V == 1`, R205. -/
def bvsTaken (s : State) : Bool := getFlag .v s.p

/-- NOP changes nothing, R195. -/
def nopEffect (s : State) : State := s

/-- `JMP addr`, opcode 4C (R190, R106). -/
def execJmpAbs (addr : Word) (s : State) : Host.Outcome State Fault Refusal :=
  jumpTo addr (costOf 0x4C#8) s

/-- `JMP (ptr)`, opcode 6C (R190, R109). -/
def execJmpInd (ptr : Word) (s : State) : Host.Outcome State Fault Refusal :=
  jumpIndirect ptr (costOf 0x6C#8) s

/-- `JSR addr`, opcode 20 (R191, R106). -/
def execJsr (addr : Word) (s : State) : Host.Outcome State Fault Refusal :=
  callSubroutine addr (costOf 0x20#8) s

/-- `RTS`, opcode 60 (R192, R100). -/
def execRts (s : State) : Host.Outcome State Fault Refusal :=
  returnFromSubroutine (costOf 0x60#8) s

/-- `BCC rel`, opcode 90 (R198, R112). -/
def execBcc (rel : Byte) (s : State) : Host.Outcome State Fault Refusal :=
  branchForm rel (costOf 0x90#8) (bccTaken s) s

/-- `BCS rel`, opcode B0 (R199, R112). -/
def execBcs (rel : Byte) (s : State) : Host.Outcome State Fault Refusal :=
  branchForm rel (costOf 0xB0#8) (bcsTaken s) s

/-- `BEQ rel`, opcode F0 (R200, R112). -/
def execBeq (rel : Byte) (s : State) : Host.Outcome State Fault Refusal :=
  branchForm rel (costOf 0xF0#8) (beqTaken s) s

/-- `BNE rel`, opcode D0 (R201, R112). -/
def execBne (rel : Byte) (s : State) : Host.Outcome State Fault Refusal :=
  branchForm rel (costOf 0xD0#8) (bneTaken s) s

/-- `BMI rel`, opcode 30 (R202, R112). -/
def execBmi (rel : Byte) (s : State) : Host.Outcome State Fault Refusal :=
  branchForm rel (costOf 0x30#8) (bmiTaken s) s

/-- `BPL rel`, opcode 10 (R203, R112). -/
def execBpl (rel : Byte) (s : State) : Host.Outcome State Fault Refusal :=
  branchForm rel (costOf 0x10#8) (bplTaken s) s

/-- `BVC rel`, opcode 50 (R204, R112). -/
def execBvc (rel : Byte) (s : State) : Host.Outcome State Fault Refusal :=
  branchForm rel (costOf 0x50#8) (bvcTaken s) s

/-- `BVS rel`, opcode 70 (R205, R112). -/
def execBvs (rel : Byte) (s : State) : Host.Outcome State Fault Refusal :=
  branchForm rel (costOf 0x70#8) (bvsTaken s) s

/-- `NOP`, opcode EA (R195, R100). -/
def execNop (s : State) : Host.Outcome State Fault Refusal :=
  impliedForm (costOf 0xEA#8) nopEffect s

/-- `BRK`, opcode 00 (R197, R100). -/
def execBrk (s : State) : Host.Outcome State Fault Refusal :=
  softwareBreak (costOf 0x00#8) s

/-- `RTI`, opcode 40 (R196, R100). -/
def execRti (s : State) : Host.Outcome State Fault Refusal :=
  returnFromInterruptForm (costOf 0x40#8) s

end Sys2Proof.Machine
end

