-- ==== Sys2Proof/Machine/LoadStore.lean ====
section
/-! DEFINITION. Loads, stores and register transfers (spec/40_load_store_transfer.md, R130 to R142). -/

namespace Sys2Proof.Machine

/-- A byte into A, with Z and N (R14, R130). -/
def loadA (v : Byte) (s : State) : State := { s with a := v, p := setZN v s.p }

/-- A byte into X, with Z and N (R131). -/
def loadX (v : Byte) (s : State) : State := { s with x := v, p := setZN v s.p }

/-- A byte into Y, with Z and N (R132). -/
def loadY (v : Byte) (s : State) : State := { s with y := v, p := setZN v s.p }

/-- LDA: `A <- M; SetZN(A)`, R130. -/
def ldaEffect (m : Byte) (s : State) : State := loadA m s

/-- LDX: `X <- M; SetZN(X)`, R131. -/
def ldxEffect (m : Byte) (s : State) : State := loadX m s

/-- LDY: `Y <- M; SetZN(Y)`, R132. -/
def ldyEffect (m : Byte) (s : State) : State := loadY m s

/-- STA stores A, R133. -/
def staValue (_ : Place) (s : State) : Byte := s.a

/-- STX stores X, R134. -/
def stxValue (_ : Place) (s : State) : Byte := s.x

/-- STY stores Y, R135. -/
def styValue (_ : Place) (s : State) : Byte := s.y

/-- TAX: `X <- A; SetZN(X)`, R136. -/
def taxEffect (s : State) : State := loadX s.a s

/-- TAY: `Y <- A; SetZN(Y)`, R137. -/
def tayEffect (s : State) : State := loadY s.a s

/-- TXA: `A <- X; SetZN(A)`, R138. -/
def txaEffect (s : State) : State := loadA s.x s

/-- TYA: `A <- Y; SetZN(A)`, R139. -/
def tyaEffect (s : State) : State := loadA s.y s

/-- TSX: `X <- S; SetZN(X)`, R140. -/
def tsxEffect (s : State) : State := loadX s.s s

/-- TXS: `S <- X`, no flag, R141. -/
def txsEffect (s : State) : State := { s with s := s.x }

/-- `LDA (zp,X)`, opcode A1 (R130, R110). -/
def execLdaIndX (zp : Byte) (s : State) : Host.Outcome State Fault Refusal :=
  readForm (.indirectX zp) (costOf 0xA1#8) ldaEffect s

/-- `LDA zp`, opcode A5 (R130, R103). -/
def execLdaZp (zp : Byte) (s : State) : Host.Outcome State Fault Refusal :=
  readForm (.zeroPage zp) (costOf 0xA5#8) ldaEffect s

/-- `LDA #imm`, opcode A9 (R130, R102). -/
def execLdaImm (imm : Byte) (s : State) : Host.Outcome State Fault Refusal :=
  immediateForm imm (costOf 0xA9#8) ldaEffect s

/-- `LDA addr`, opcode AD (R130, R106). -/
def execLdaAbs (addr : Word) (s : State) : Host.Outcome State Fault Refusal :=
  readForm (.absolute addr) (costOf 0xAD#8) ldaEffect s

/-- `LDA (zp),Y`, opcode B1 (R130, R111). -/
def execLdaIndY (zp : Byte) (s : State) : Host.Outcome State Fault Refusal :=
  readForm (.indirectY zp) (costOf 0xB1#8) ldaEffect s

/-- `LDA zp,X`, opcode B5 (R130, R104). -/
def execLdaZpX (zp : Byte) (s : State) : Host.Outcome State Fault Refusal :=
  readForm (.zeroPageX zp) (costOf 0xB5#8) ldaEffect s

/-- `LDA addr,Y`, opcode B9 (R130, R108). -/
def execLdaAbsY (addr : Word) (s : State) : Host.Outcome State Fault Refusal :=
  readForm (.absoluteY addr) (costOf 0xB9#8) ldaEffect s

/-- `LDA addr,X`, opcode BD (R130, R107). -/
def execLdaAbsX (addr : Word) (s : State) : Host.Outcome State Fault Refusal :=
  readForm (.absoluteX addr) (costOf 0xBD#8) ldaEffect s

/-- `LDX #imm`, opcode A2 (R131, R102). -/
def execLdxImm (imm : Byte) (s : State) : Host.Outcome State Fault Refusal :=
  immediateForm imm (costOf 0xA2#8) ldxEffect s

/-- `LDX zp`, opcode A6 (R131, R103). -/
def execLdxZp (zp : Byte) (s : State) : Host.Outcome State Fault Refusal :=
  readForm (.zeroPage zp) (costOf 0xA6#8) ldxEffect s

/-- `LDX addr`, opcode AE (R131, R106). -/
def execLdxAbs (addr : Word) (s : State) : Host.Outcome State Fault Refusal :=
  readForm (.absolute addr) (costOf 0xAE#8) ldxEffect s

/-- `LDX zp,Y`, opcode B6 (R131, R105). -/
def execLdxZpY (zp : Byte) (s : State) : Host.Outcome State Fault Refusal :=
  readForm (.zeroPageY zp) (costOf 0xB6#8) ldxEffect s

/-- `LDX addr,Y`, opcode BE (R131, R108). -/
def execLdxAbsY (addr : Word) (s : State) : Host.Outcome State Fault Refusal :=
  readForm (.absoluteY addr) (costOf 0xBE#8) ldxEffect s

/-- `LDY #imm`, opcode A0 (R132, R102). -/
def execLdyImm (imm : Byte) (s : State) : Host.Outcome State Fault Refusal :=
  immediateForm imm (costOf 0xA0#8) ldyEffect s

/-- `LDY zp`, opcode A4 (R132, R103). -/
def execLdyZp (zp : Byte) (s : State) : Host.Outcome State Fault Refusal :=
  readForm (.zeroPage zp) (costOf 0xA4#8) ldyEffect s

/-- `LDY addr`, opcode AC (R132, R106). -/
def execLdyAbs (addr : Word) (s : State) : Host.Outcome State Fault Refusal :=
  readForm (.absolute addr) (costOf 0xAC#8) ldyEffect s

/-- `LDY zp,X`, opcode B4 (R132, R104). -/
def execLdyZpX (zp : Byte) (s : State) : Host.Outcome State Fault Refusal :=
  readForm (.zeroPageX zp) (costOf 0xB4#8) ldyEffect s

/-- `LDY addr,X`, opcode BC (R132, R107). -/
def execLdyAbsX (addr : Word) (s : State) : Host.Outcome State Fault Refusal :=
  readForm (.absoluteX addr) (costOf 0xBC#8) ldyEffect s

/-- `STA (zp,X)`, opcode 81 (R133, R110). -/
def execStaIndX (zp : Byte) (s : State) : Host.Outcome State Fault Refusal :=
  storeForm (.indirectX zp) (costOf 0x81#8) id staValue s

/-- `STA zp`, opcode 85 (R133, R103). -/
def execStaZp (zp : Byte) (s : State) : Host.Outcome State Fault Refusal :=
  storeForm (.zeroPage zp) (costOf 0x85#8) id staValue s

/-- `STA addr`, opcode 8D (R133, R106). -/
def execStaAbs (addr : Word) (s : State) : Host.Outcome State Fault Refusal :=
  storeForm (.absolute addr) (costOf 0x8D#8) id staValue s

/-- `STA (zp),Y`, opcode 91 (R133, R111). -/
def execStaIndY (zp : Byte) (s : State) : Host.Outcome State Fault Refusal :=
  storeForm (.indirectY zp) (costOf 0x91#8) id staValue s

/-- `STA zp,X`, opcode 95 (R133, R104). -/
def execStaZpX (zp : Byte) (s : State) : Host.Outcome State Fault Refusal :=
  storeForm (.zeroPageX zp) (costOf 0x95#8) id staValue s

/-- `STA addr,Y`, opcode 99 (R133, R108). -/
def execStaAbsY (addr : Word) (s : State) : Host.Outcome State Fault Refusal :=
  storeForm (.absoluteY addr) (costOf 0x99#8) id staValue s

/-- `STA addr,X`, opcode 9D (R133, R107). -/
def execStaAbsX (addr : Word) (s : State) : Host.Outcome State Fault Refusal :=
  storeForm (.absoluteX addr) (costOf 0x9D#8) id staValue s

/-- `STX zp`, opcode 86 (R134, R103). -/
def execStxZp (zp : Byte) (s : State) : Host.Outcome State Fault Refusal :=
  storeForm (.zeroPage zp) (costOf 0x86#8) id stxValue s

/-- `STX addr`, opcode 8E (R134, R106). -/
def execStxAbs (addr : Word) (s : State) : Host.Outcome State Fault Refusal :=
  storeForm (.absolute addr) (costOf 0x8E#8) id stxValue s

/-- `STX zp,Y`, opcode 96 (R134, R105). -/
def execStxZpY (zp : Byte) (s : State) : Host.Outcome State Fault Refusal :=
  storeForm (.zeroPageY zp) (costOf 0x96#8) id stxValue s

/-- `STY zp`, opcode 84 (R135, R103). -/
def execStyZp (zp : Byte) (s : State) : Host.Outcome State Fault Refusal :=
  storeForm (.zeroPage zp) (costOf 0x84#8) id styValue s

/-- `STY addr`, opcode 8C (R135, R106). -/
def execStyAbs (addr : Word) (s : State) : Host.Outcome State Fault Refusal :=
  storeForm (.absolute addr) (costOf 0x8C#8) id styValue s

/-- `STY zp,X`, opcode 94 (R135, R104). -/
def execStyZpX (zp : Byte) (s : State) : Host.Outcome State Fault Refusal :=
  storeForm (.zeroPageX zp) (costOf 0x94#8) id styValue s

/-- `TAX`, opcode AA (R136, R100). -/
def execTax (s : State) : Host.Outcome State Fault Refusal :=
  impliedForm (costOf 0xAA#8) taxEffect s

/-- `TAY`, opcode A8 (R137, R100). -/
def execTay (s : State) : Host.Outcome State Fault Refusal :=
  impliedForm (costOf 0xA8#8) tayEffect s

/-- `TXA`, opcode 8A (R138, R100). -/
def execTxa (s : State) : Host.Outcome State Fault Refusal :=
  impliedForm (costOf 0x8A#8) txaEffect s

/-- `TYA`, opcode 98 (R139, R100). -/
def execTya (s : State) : Host.Outcome State Fault Refusal :=
  impliedForm (costOf 0x98#8) tyaEffect s

/-- `TSX`, opcode BA (R140, R100). -/
def execTsx (s : State) : Host.Outcome State Fault Refusal :=
  impliedForm (costOf 0xBA#8) tsxEffect s

/-- `TXS`, opcode 9A (R141, R100). -/
def execTxs (s : State) : Host.Outcome State Fault Refusal :=
  impliedForm (costOf 0x9A#8) txsEffect s

end Sys2Proof.Machine
end

