-- ==== Sys2Proof/Machine/Shift.lean ====
section
/-! DEFINITION. Shifts and rotates, on A and on memory (spec/42_shift_rotate.md, R180 to R184). -/

namespace Sys2Proof.Machine

/-- ASL's result, R180. -/
def aslResult (v : Byte) (_ : State) : Byte := shiftLeft v

/-- ASL's flags: C is bit 7 of the old value, R180. -/
def aslEffect (v r : Byte) (s : State) : State := { s with p := shiftFlags (v.getLsbD 7) r s.p }

/-- LSR's result, R181. -/
def lsrResult (v : Byte) (_ : State) : Byte := shiftRight v

/-- LSR's flags: C is bit 0 of the old value, R181. -/
def lsrEffect (v r : Byte) (s : State) : State := { s with p := shiftFlags (v.getLsbD 0) r s.p }

/-- ROL's result, R182. -/
def rolResult (v : Byte) (s : State) : Byte := rotateLeft v s.p

/-- ROL's flags: C is bit 7 of the old value, R182. -/
def rolEffect (v r : Byte) (s : State) : State := { s with p := shiftFlags (v.getLsbD 7) r s.p }

/-- ROR's result, R183. -/
def rorResult (v : Byte) (s : State) : Byte := rotateRight v s.p

/-- ROR's flags: C is bit 0 of the old value, R183. -/
def rorEffect (v r : Byte) (s : State) : State := { s with p := shiftFlags (v.getLsbD 0) r s.p }

/-- ASL A, R180. -/
def aslAccEffect (s : State) : State :=
  { s with a := shiftLeft s.a, p := shiftFlags (s.a.getLsbD 7) (shiftLeft s.a) s.p }

/-- LSR A, R181. -/
def lsrAccEffect (s : State) : State :=
  { s with a := shiftRight s.a, p := shiftFlags (s.a.getLsbD 0) (shiftRight s.a) s.p }

/-- ROL A, R182: the result takes the old carry, C the old bit 7 (R184). -/
def rolAccEffect (s : State) : State :=
  { s with a := rotateLeft s.a s.p, p := shiftFlags (s.a.getLsbD 7) (rotateLeft s.a s.p) s.p }

/-- ROR A, R183: the result takes the old carry, C the old bit 0 (R184). -/
def rorAccEffect (s : State) : State :=
  { s with a := rotateRight s.a s.p, p := shiftFlags (s.a.getLsbD 0) (rotateRight s.a s.p) s.p }

/-- `ASL zp`, opcode 06 (R180, R103). -/
def execAslZp (zp : Byte) (s : State) : Host.Outcome State Fault Refusal :=
  rmwForm (.zeroPage zp) (costOf 0x06#8) aslResult aslEffect s

/-- `ASL A`, opcode 0A (R180, R101). -/
def execAslAcc (s : State) : Host.Outcome State Fault Refusal :=
  impliedForm (costOf 0x0A#8) aslAccEffect s

/-- `ASL addr`, opcode 0E (R180, R106). -/
def execAslAbs (addr : Word) (s : State) : Host.Outcome State Fault Refusal :=
  rmwForm (.absolute addr) (costOf 0x0E#8) aslResult aslEffect s

/-- `ASL zp,X`, opcode 16 (R180, R104). -/
def execAslZpX (zp : Byte) (s : State) : Host.Outcome State Fault Refusal :=
  rmwForm (.zeroPageX zp) (costOf 0x16#8) aslResult aslEffect s

/-- `ASL addr,X`, opcode 1E (R180, R107). -/
def execAslAbsX (addr : Word) (s : State) : Host.Outcome State Fault Refusal :=
  rmwForm (.absoluteX addr) (costOf 0x1E#8) aslResult aslEffect s

/-- `LSR zp`, opcode 46 (R181, R103). -/
def execLsrZp (zp : Byte) (s : State) : Host.Outcome State Fault Refusal :=
  rmwForm (.zeroPage zp) (costOf 0x46#8) lsrResult lsrEffect s

/-- `LSR A`, opcode 4A (R181, R101). -/
def execLsrAcc (s : State) : Host.Outcome State Fault Refusal :=
  impliedForm (costOf 0x4A#8) lsrAccEffect s

/-- `LSR addr`, opcode 4E (R181, R106). -/
def execLsrAbs (addr : Word) (s : State) : Host.Outcome State Fault Refusal :=
  rmwForm (.absolute addr) (costOf 0x4E#8) lsrResult lsrEffect s

/-- `LSR zp,X`, opcode 56 (R181, R104). -/
def execLsrZpX (zp : Byte) (s : State) : Host.Outcome State Fault Refusal :=
  rmwForm (.zeroPageX zp) (costOf 0x56#8) lsrResult lsrEffect s

/-- `LSR addr,X`, opcode 5E (R181, R107). -/
def execLsrAbsX (addr : Word) (s : State) : Host.Outcome State Fault Refusal :=
  rmwForm (.absoluteX addr) (costOf 0x5E#8) lsrResult lsrEffect s

/-- `ROL zp`, opcode 26 (R182, R103). -/
def execRolZp (zp : Byte) (s : State) : Host.Outcome State Fault Refusal :=
  rmwForm (.zeroPage zp) (costOf 0x26#8) rolResult rolEffect s

/-- `ROL A`, opcode 2A (R182, R101). -/
def execRolAcc (s : State) : Host.Outcome State Fault Refusal :=
  impliedForm (costOf 0x2A#8) rolAccEffect s

/-- `ROL addr`, opcode 2E (R182, R106). -/
def execRolAbs (addr : Word) (s : State) : Host.Outcome State Fault Refusal :=
  rmwForm (.absolute addr) (costOf 0x2E#8) rolResult rolEffect s

/-- `ROL zp,X`, opcode 36 (R182, R104). -/
def execRolZpX (zp : Byte) (s : State) : Host.Outcome State Fault Refusal :=
  rmwForm (.zeroPageX zp) (costOf 0x36#8) rolResult rolEffect s

/-- `ROL addr,X`, opcode 3E (R182, R107). -/
def execRolAbsX (addr : Word) (s : State) : Host.Outcome State Fault Refusal :=
  rmwForm (.absoluteX addr) (costOf 0x3E#8) rolResult rolEffect s

/-- `ROR zp`, opcode 66 (R183, R103). -/
def execRorZp (zp : Byte) (s : State) : Host.Outcome State Fault Refusal :=
  rmwForm (.zeroPage zp) (costOf 0x66#8) rorResult rorEffect s

/-- `ROR A`, opcode 6A (R183, R101). -/
def execRorAcc (s : State) : Host.Outcome State Fault Refusal :=
  impliedForm (costOf 0x6A#8) rorAccEffect s

/-- `ROR addr`, opcode 6E (R183, R106). -/
def execRorAbs (addr : Word) (s : State) : Host.Outcome State Fault Refusal :=
  rmwForm (.absolute addr) (costOf 0x6E#8) rorResult rorEffect s

/-- `ROR zp,X`, opcode 76 (R183, R104). -/
def execRorZpX (zp : Byte) (s : State) : Host.Outcome State Fault Refusal :=
  rmwForm (.zeroPageX zp) (costOf 0x76#8) rorResult rorEffect s

/-- `ROR addr,X`, opcode 7E (R183, R107). -/
def execRorAbsX (addr : Word) (s : State) : Host.Outcome State Fault Refusal :=
  rmwForm (.absoluteX addr) (costOf 0x7E#8) rorResult rorEffect s

end Sys2Proof.Machine
end

