-- ==== Sys2Proof/Machine/Stack.lean ====
section
/-! DEFINITION. Stack and flag instructions (spec/44_stack_flags.md, R220 to R231). -/

namespace Sys2Proof.Machine

/-- A push of one byte computed from the registers (R220, R222). -/
def pushForm (c : Cost) (value : State → Byte) (s : State) : Host.Outcome State Fault Refusal :=
  settle ((push8 (value s) s).andThen fun _ s => .ok () (complete 0 c.cycles s))

/-- A pull of one byte into registers or flags (R221, R223). -/
def pullForm (c : Cost) (effect : Byte → State → State) (s : State) : Host.Outcome State Fault Refusal :=
  settle ((pull8 s).andThen fun v s => .ok () (complete 0 c.cycles (effect v s)))

/-- PHA pushes A, R220. -/
def phaByte (s : State) : Byte := s.a

/-- PHP pushes P with Break and Break2 set in the copy, R222. -/
def phpByte (s : State) : Byte := pushedStatus 0x30#8 s.p

/-- PLA: `A <- Pull8(); SetZN(A)`, R221. -/
def plaEffect (v : Byte) (s : State) : State := { s with a := v, p := setZN v s.p }

/-- PLP: P from the pulled byte, Break 0 and Break2 1, R223. -/
def plpEffect (b : Byte) (s : State) : State := { s with p := pulledStatus b }

/-- CLC: `P.C <- 0`, R224. -/
def clcEffect (s : State) : State := { s with p := setFlag .c false s.p }

/-- SEC: `P.C <- 1`, R225. -/
def secEffect (s : State) : State := { s with p := setFlag .c true s.p }

/-- CLI: `P.I <- 0`, R226. -/
def cliEffect (s : State) : State := { s with p := setFlag .i false s.p }

/-- SEI: `P.I <- 1`, R227. -/
def seiEffect (s : State) : State := { s with p := setFlag .i true s.p }

/-- CLD: `P.D <- 0`, R228. -/
def cldEffect (s : State) : State := { s with p := setFlag .d false s.p }

/-- SED: `P.D <- 1`, R229. -/
def sedEffect (s : State) : State := { s with p := setFlag .d true s.p }

/-- CLV: `P.V <- 0`, R230. -/
def clvEffect (s : State) : State := { s with p := setFlag .v false s.p }

/-- `PHA`, opcode 48 (R220, R100). -/
def execPha (s : State) : Host.Outcome State Fault Refusal :=
  pushForm (costOf 0x48#8) phaByte s

/-- `PLA`, opcode 68 (R221, R100). -/
def execPla (s : State) : Host.Outcome State Fault Refusal :=
  pullForm (costOf 0x68#8) plaEffect s

/-- `PHP`, opcode 08 (R222, R100). -/
def execPhp (s : State) : Host.Outcome State Fault Refusal :=
  pushForm (costOf 0x08#8) phpByte s

/-- `PLP`, opcode 28 (R223, R100). -/
def execPlp (s : State) : Host.Outcome State Fault Refusal :=
  pullForm (costOf 0x28#8) plpEffect s

/-- `CLC`, opcode 18 (R224, R100). -/
def execClc (s : State) : Host.Outcome State Fault Refusal :=
  impliedForm (costOf 0x18#8) clcEffect s

/-- `SEC`, opcode 38 (R225, R100). -/
def execSec (s : State) : Host.Outcome State Fault Refusal :=
  impliedForm (costOf 0x38#8) secEffect s

/-- `CLI`, opcode 58 (R226, R100). -/
def execCli (s : State) : Host.Outcome State Fault Refusal :=
  impliedForm (costOf 0x58#8) cliEffect s

/-- `SEI`, opcode 78 (R227, R100). -/
def execSei (s : State) : Host.Outcome State Fault Refusal :=
  impliedForm (costOf 0x78#8) seiEffect s

/-- `CLD`, opcode D8 (R228, R100). -/
def execCld (s : State) : Host.Outcome State Fault Refusal :=
  impliedForm (costOf 0xD8#8) cldEffect s

/-- `SED`, opcode F8 (R229, R100). -/
def execSed (s : State) : Host.Outcome State Fault Refusal :=
  impliedForm (costOf 0xF8#8) sedEffect s

/-- `CLV`, opcode B8 (R230, R100). -/
def execClv (s : State) : Host.Outcome State Fault Refusal :=
  impliedForm (costOf 0xB8#8) clvEffect s

end Sys2Proof.Machine
end

