-- ==== Sys2Proof/Machine/Unofficial.lean ====
section
/-! DEFINITION. The unofficial opcodes (spec/45_unofficial.md, R240 to R263): the official building blocks executed in sequence. -/

namespace Sys2Proof.Machine

/-- SLO's written byte: ASL (R241). -/
def sloResult (v : Byte) (_ : State) : Byte := shiftLeft v

/-- SLO: C from the shift, then ORA (R241). -/
def sloEffect (v r : Byte) (s : State) : State :=
  { s with a := s.a ||| r, p := shiftFlags (v.getLsbD 7) (s.a ||| r) s.p }

/-- RLA's written byte: ROL with the old carry (R242). -/
def rlaResult (v : Byte) (s : State) : Byte := rotateLeft v s.p

/-- RLA: C from the rotate, then AND (R242). -/
def rlaEffect (v r : Byte) (s : State) : State :=
  { s with a := s.a &&& r, p := shiftFlags (v.getLsbD 7) (s.a &&& r) s.p }

/-- SRE's written byte: LSR (R243). -/
def sreResult (v : Byte) (_ : State) : Byte := shiftRight v

/-- SRE: C from the shift, then EOR (R243). -/
def sreEffect (v r : Byte) (s : State) : State :=
  { s with a := s.a ^^^ r, p := shiftFlags (v.getLsbD 0) (s.a ^^^ r) s.p }

/-- RRA's written byte: ROR with the old carry (R244). -/
def rraResult (v : Byte) (s : State) : Byte := rotateRight v s.p

/-- RRA: ADC of the rotated byte with the carry the rotate produced (R244). -/
def rraEffect (v r : Byte) (s : State) : State :=
  { s with
    a := (addCore s.a r (v.getLsbD 0).toNat).result
    p := sumFlags (addCore s.a r (v.getLsbD 0).toNat) s.p }

/-- DCP's written byte: DEC (R247). -/
def dcpResult (v : Byte) (_ : State) : Byte := v - 1#8

/-- DCP: `Compare(A, r)`, R247. -/
def dcpEffect (_ r : Byte) (s : State) : State := { s with p := compareFlags s.a r s.p }

/-- ISB's written byte: INC (R248). -/
def isbResult (v : Byte) (_ : State) : Byte := v + 1#8

/-- ISB: SBC of the incremented byte (R248). -/
def isbEffect (_ r : Byte) (s : State) : State :=
  { s with
    a := (addCore s.a (r ^^^ 0xFF#8) (carryIn s.p)).result
    p := sumFlags (addCore s.a (r ^^^ 0xFF#8) (carryIn s.p)) s.p }

/-- SAX stores `A & X`, R245. -/
def saxValue (_ : Place) (s : State) : Byte := s.a &&& s.x

/-- LAX: A and X from memory, R246. -/
def laxEffect (m : Byte) (s : State) : State := { s with a := m, x := m, p := setZN m s.p }

/-- LAS: A, X and S from `M & S`, R260. -/
def lasEffect (m : Byte) (s : State) : State :=
  { s with a := m &&& s.s, x := m &&& s.s, s := m &&& s.s, p := setZN (m &&& s.s) s.p }

/-- ANC: AND, then C is bit 7 of A (R249). -/
def ancEffect (m : Byte) (s : State) : State :=
  { s with a := s.a &&& m, p := setFlag .c ((s.a &&& m).getLsbD 7) (setZN (s.a &&& m) s.p) }

/-- ALR: AND, then LSR A (R250). -/
def alrEffect (m : Byte) (s : State) : State :=
  { s with
    a := shiftRight (s.a &&& m)
    p := shiftFlags ((s.a &&& m).getLsbD 0) (shiftRight (s.a &&& m)) s.p }

/-- ARR: AND, then ROR A, with C and V of its own (R251). -/
def arrEffect (m : Byte) (s : State) : State :=
  { s with
    a := rotateRight (s.a &&& m) s.p
    p := arrFlags (rotateRight (s.a &&& m) s.p) s.p }

/-- AXS: X is `(A & X) - M`, with the flags of a compare (R254). -/
def axsEffect (m : Byte) (s : State) : State :=
  { s with x := (s.a &&& s.x) - m, p := compareFlags (s.a &&& s.x) m s.p }

/-- XAA: `A <- (A | XAA_MAGIC) & X & M`, R252 (log 13). -/
def xaaEffect (m : Byte) (s : State) : State :=
  { s with
    a := (s.a ||| s.cfg.xaaMagic) &&& s.x &&& m
    p := setZN ((s.a ||| s.cfg.xaaMagic) &&& s.x &&& m) s.p }

/-- LXA: A and X are `(A | LXA_MAGIC) & M`, R253 (log 14). -/
def lxaEffect (m : Byte) (s : State) : State :=
  { s with
    a := (s.a ||| s.cfg.lxaMagic) &&& m
    x := (s.a ||| s.cfg.lxaMagic) &&& m
    p := setZN ((s.a ||| s.cfg.lxaMagic) &&& m) s.p }

/-- `(H + 1) mod 256` with H the high byte of the unindexed base (section 5 of 45_unofficial, R256). -/
def highPlusOne (pl : Place) : Byte := highByte pl.base + 1#8

/-- AHX stores `A & X & (H + 1)`, R256 (log 15). -/
def ahxValue (pl : Place) (s : State) : Byte := s.a &&& s.x &&& highPlusOne pl

/-- SHY stores `Y & (H + 1)`, R257 (log 15). -/
def shyValue (pl : Place) (s : State) : Byte := s.y &&& highPlusOne pl

/-- SHX stores `X & (H + 1)`, R258 (log 15). -/
def shxValue (pl : Place) (s : State) : Byte := s.x &&& highPlusOne pl

/-- TAS first sets S to `A & X`, R259. -/
def tasBefore (s : State) : State := { s with s := s.a &&& s.x }

/-- TAS then stores `S & (H + 1)`, R259 (log 15). -/
def tasValue (pl : Place) (s : State) : Byte := s.s &&& highPlusOne pl

/-- The unofficial NOPs discard the byte they read (R261). -/
def nopReadEffect (_ : Byte) (s : State) : State := s

/-- JAM, R262: the controlled stop, no Tick, pc left at `opaddr + 1`. -/
def jamForm (s : State) : Host.Outcome State Fault Refusal := settle (raiseStop .jam s)

/-- `SLO (zp,X)`, opcode 03 (R241, R110). -/
def execSloIndX (zp : Byte) (s : State) : Host.Outcome State Fault Refusal :=
  rmwForm (.indirectX zp) (costOf 0x03#8) sloResult sloEffect s

/-- `SLO zp`, opcode 07 (R241, R103). -/
def execSloZp (zp : Byte) (s : State) : Host.Outcome State Fault Refusal :=
  rmwForm (.zeroPage zp) (costOf 0x07#8) sloResult sloEffect s

/-- `SLO addr`, opcode 0F (R241, R106). -/
def execSloAbs (addr : Word) (s : State) : Host.Outcome State Fault Refusal :=
  rmwForm (.absolute addr) (costOf 0x0F#8) sloResult sloEffect s

/-- `SLO (zp),Y`, opcode 13 (R241, R111). -/
def execSloIndY (zp : Byte) (s : State) : Host.Outcome State Fault Refusal :=
  rmwForm (.indirectY zp) (costOf 0x13#8) sloResult sloEffect s

/-- `SLO zp,X`, opcode 17 (R241, R104). -/
def execSloZpX (zp : Byte) (s : State) : Host.Outcome State Fault Refusal :=
  rmwForm (.zeroPageX zp) (costOf 0x17#8) sloResult sloEffect s

/-- `SLO addr,Y`, opcode 1B (R241, R108). -/
def execSloAbsY (addr : Word) (s : State) : Host.Outcome State Fault Refusal :=
  rmwForm (.absoluteY addr) (costOf 0x1B#8) sloResult sloEffect s

/-- `SLO addr,X`, opcode 1F (R241, R107). -/
def execSloAbsX (addr : Word) (s : State) : Host.Outcome State Fault Refusal :=
  rmwForm (.absoluteX addr) (costOf 0x1F#8) sloResult sloEffect s

/-- `RLA (zp,X)`, opcode 23 (R242, R110). -/
def execRlaIndX (zp : Byte) (s : State) : Host.Outcome State Fault Refusal :=
  rmwForm (.indirectX zp) (costOf 0x23#8) rlaResult rlaEffect s

/-- `RLA zp`, opcode 27 (R242, R103). -/
def execRlaZp (zp : Byte) (s : State) : Host.Outcome State Fault Refusal :=
  rmwForm (.zeroPage zp) (costOf 0x27#8) rlaResult rlaEffect s

/-- `RLA addr`, opcode 2F (R242, R106). -/
def execRlaAbs (addr : Word) (s : State) : Host.Outcome State Fault Refusal :=
  rmwForm (.absolute addr) (costOf 0x2F#8) rlaResult rlaEffect s

/-- `RLA (zp),Y`, opcode 33 (R242, R111). -/
def execRlaIndY (zp : Byte) (s : State) : Host.Outcome State Fault Refusal :=
  rmwForm (.indirectY zp) (costOf 0x33#8) rlaResult rlaEffect s

/-- `RLA zp,X`, opcode 37 (R242, R104). -/
def execRlaZpX (zp : Byte) (s : State) : Host.Outcome State Fault Refusal :=
  rmwForm (.zeroPageX zp) (costOf 0x37#8) rlaResult rlaEffect s

/-- `RLA addr,Y`, opcode 3B (R242, R108). -/
def execRlaAbsY (addr : Word) (s : State) : Host.Outcome State Fault Refusal :=
  rmwForm (.absoluteY addr) (costOf 0x3B#8) rlaResult rlaEffect s

/-- `RLA addr,X`, opcode 3F (R242, R107). -/
def execRlaAbsX (addr : Word) (s : State) : Host.Outcome State Fault Refusal :=
  rmwForm (.absoluteX addr) (costOf 0x3F#8) rlaResult rlaEffect s

/-- `SRE (zp,X)`, opcode 43 (R243, R110). -/
def execSreIndX (zp : Byte) (s : State) : Host.Outcome State Fault Refusal :=
  rmwForm (.indirectX zp) (costOf 0x43#8) sreResult sreEffect s

/-- `SRE zp`, opcode 47 (R243, R103). -/
def execSreZp (zp : Byte) (s : State) : Host.Outcome State Fault Refusal :=
  rmwForm (.zeroPage zp) (costOf 0x47#8) sreResult sreEffect s

/-- `SRE addr`, opcode 4F (R243, R106). -/
def execSreAbs (addr : Word) (s : State) : Host.Outcome State Fault Refusal :=
  rmwForm (.absolute addr) (costOf 0x4F#8) sreResult sreEffect s

/-- `SRE (zp),Y`, opcode 53 (R243, R111). -/
def execSreIndY (zp : Byte) (s : State) : Host.Outcome State Fault Refusal :=
  rmwForm (.indirectY zp) (costOf 0x53#8) sreResult sreEffect s

/-- `SRE zp,X`, opcode 57 (R243, R104). -/
def execSreZpX (zp : Byte) (s : State) : Host.Outcome State Fault Refusal :=
  rmwForm (.zeroPageX zp) (costOf 0x57#8) sreResult sreEffect s

/-- `SRE addr,Y`, opcode 5B (R243, R108). -/
def execSreAbsY (addr : Word) (s : State) : Host.Outcome State Fault Refusal :=
  rmwForm (.absoluteY addr) (costOf 0x5B#8) sreResult sreEffect s

/-- `SRE addr,X`, opcode 5F (R243, R107). -/
def execSreAbsX (addr : Word) (s : State) : Host.Outcome State Fault Refusal :=
  rmwForm (.absoluteX addr) (costOf 0x5F#8) sreResult sreEffect s

/-- `RRA (zp,X)`, opcode 63 (R244, R110). -/
def execRraIndX (zp : Byte) (s : State) : Host.Outcome State Fault Refusal :=
  rmwForm (.indirectX zp) (costOf 0x63#8) rraResult rraEffect s

/-- `RRA zp`, opcode 67 (R244, R103). -/
def execRraZp (zp : Byte) (s : State) : Host.Outcome State Fault Refusal :=
  rmwForm (.zeroPage zp) (costOf 0x67#8) rraResult rraEffect s

/-- `RRA addr`, opcode 6F (R244, R106). -/
def execRraAbs (addr : Word) (s : State) : Host.Outcome State Fault Refusal :=
  rmwForm (.absolute addr) (costOf 0x6F#8) rraResult rraEffect s

/-- `RRA (zp),Y`, opcode 73 (R244, R111). -/
def execRraIndY (zp : Byte) (s : State) : Host.Outcome State Fault Refusal :=
  rmwForm (.indirectY zp) (costOf 0x73#8) rraResult rraEffect s

/-- `RRA zp,X`, opcode 77 (R244, R104). -/
def execRraZpX (zp : Byte) (s : State) : Host.Outcome State Fault Refusal :=
  rmwForm (.zeroPageX zp) (costOf 0x77#8) rraResult rraEffect s

/-- `RRA addr,Y`, opcode 7B (R244, R108). -/
def execRraAbsY (addr : Word) (s : State) : Host.Outcome State Fault Refusal :=
  rmwForm (.absoluteY addr) (costOf 0x7B#8) rraResult rraEffect s

/-- `RRA addr,X`, opcode 7F (R244, R107). -/
def execRraAbsX (addr : Word) (s : State) : Host.Outcome State Fault Refusal :=
  rmwForm (.absoluteX addr) (costOf 0x7F#8) rraResult rraEffect s

/-- `DCP (zp,X)`, opcode C3 (R247, R110). -/
def execDcpIndX (zp : Byte) (s : State) : Host.Outcome State Fault Refusal :=
  rmwForm (.indirectX zp) (costOf 0xC3#8) dcpResult dcpEffect s

/-- `DCP zp`, opcode C7 (R247, R103). -/
def execDcpZp (zp : Byte) (s : State) : Host.Outcome State Fault Refusal :=
  rmwForm (.zeroPage zp) (costOf 0xC7#8) dcpResult dcpEffect s

/-- `DCP addr`, opcode CF (R247, R106). -/
def execDcpAbs (addr : Word) (s : State) : Host.Outcome State Fault Refusal :=
  rmwForm (.absolute addr) (costOf 0xCF#8) dcpResult dcpEffect s

/-- `DCP (zp),Y`, opcode D3 (R247, R111). -/
def execDcpIndY (zp : Byte) (s : State) : Host.Outcome State Fault Refusal :=
  rmwForm (.indirectY zp) (costOf 0xD3#8) dcpResult dcpEffect s

/-- `DCP zp,X`, opcode D7 (R247, R104). -/
def execDcpZpX (zp : Byte) (s : State) : Host.Outcome State Fault Refusal :=
  rmwForm (.zeroPageX zp) (costOf 0xD7#8) dcpResult dcpEffect s

/-- `DCP addr,Y`, opcode DB (R247, R108). -/
def execDcpAbsY (addr : Word) (s : State) : Host.Outcome State Fault Refusal :=
  rmwForm (.absoluteY addr) (costOf 0xDB#8) dcpResult dcpEffect s

/-- `DCP addr,X`, opcode DF (R247, R107). -/
def execDcpAbsX (addr : Word) (s : State) : Host.Outcome State Fault Refusal :=
  rmwForm (.absoluteX addr) (costOf 0xDF#8) dcpResult dcpEffect s

/-- `ISB (zp,X)`, opcode E3 (R248, R110). -/
def execIsbIndX (zp : Byte) (s : State) : Host.Outcome State Fault Refusal :=
  rmwForm (.indirectX zp) (costOf 0xE3#8) isbResult isbEffect s

/-- `ISB zp`, opcode E7 (R248, R103). -/
def execIsbZp (zp : Byte) (s : State) : Host.Outcome State Fault Refusal :=
  rmwForm (.zeroPage zp) (costOf 0xE7#8) isbResult isbEffect s

/-- `ISB addr`, opcode EF (R248, R106). -/
def execIsbAbs (addr : Word) (s : State) : Host.Outcome State Fault Refusal :=
  rmwForm (.absolute addr) (costOf 0xEF#8) isbResult isbEffect s

/-- `ISB (zp),Y`, opcode F3 (R248, R111). -/
def execIsbIndY (zp : Byte) (s : State) : Host.Outcome State Fault Refusal :=
  rmwForm (.indirectY zp) (costOf 0xF3#8) isbResult isbEffect s

/-- `ISB zp,X`, opcode F7 (R248, R104). -/
def execIsbZpX (zp : Byte) (s : State) : Host.Outcome State Fault Refusal :=
  rmwForm (.zeroPageX zp) (costOf 0xF7#8) isbResult isbEffect s

/-- `ISB addr,Y`, opcode FB (R248, R108). -/
def execIsbAbsY (addr : Word) (s : State) : Host.Outcome State Fault Refusal :=
  rmwForm (.absoluteY addr) (costOf 0xFB#8) isbResult isbEffect s

/-- `ISB addr,X`, opcode FF (R248, R107). -/
def execIsbAbsX (addr : Word) (s : State) : Host.Outcome State Fault Refusal :=
  rmwForm (.absoluteX addr) (costOf 0xFF#8) isbResult isbEffect s

/-- `SAX (zp,X)`, opcode 83 (R245, R110). -/
def execSaxIndX (zp : Byte) (s : State) : Host.Outcome State Fault Refusal :=
  storeForm (.indirectX zp) (costOf 0x83#8) id saxValue s

/-- `SAX zp`, opcode 87 (R245, R103). -/
def execSaxZp (zp : Byte) (s : State) : Host.Outcome State Fault Refusal :=
  storeForm (.zeroPage zp) (costOf 0x87#8) id saxValue s

/-- `SAX addr`, opcode 8F (R245, R106). -/
def execSaxAbs (addr : Word) (s : State) : Host.Outcome State Fault Refusal :=
  storeForm (.absolute addr) (costOf 0x8F#8) id saxValue s

/-- `SAX zp,Y`, opcode 97 (R245, R105). -/
def execSaxZpY (zp : Byte) (s : State) : Host.Outcome State Fault Refusal :=
  storeForm (.zeroPageY zp) (costOf 0x97#8) id saxValue s

/-- `LAX (zp,X)`, opcode A3 (R246, R110). -/
def execLaxIndX (zp : Byte) (s : State) : Host.Outcome State Fault Refusal :=
  readForm (.indirectX zp) (costOf 0xA3#8) laxEffect s

/-- `LAX zp`, opcode A7 (R246, R103). -/
def execLaxZp (zp : Byte) (s : State) : Host.Outcome State Fault Refusal :=
  readForm (.zeroPage zp) (costOf 0xA7#8) laxEffect s

/-- `LAX addr`, opcode AF (R246, R106). -/
def execLaxAbs (addr : Word) (s : State) : Host.Outcome State Fault Refusal :=
  readForm (.absolute addr) (costOf 0xAF#8) laxEffect s

/-- `LAX (zp),Y`, opcode B3 (R246, R111). -/
def execLaxIndY (zp : Byte) (s : State) : Host.Outcome State Fault Refusal :=
  readForm (.indirectY zp) (costOf 0xB3#8) laxEffect s

/-- `LAX zp,Y`, opcode B7 (R246, R105). -/
def execLaxZpY (zp : Byte) (s : State) : Host.Outcome State Fault Refusal :=
  readForm (.zeroPageY zp) (costOf 0xB7#8) laxEffect s

/-- `LAX addr,Y`, opcode BF (R246, R108). -/
def execLaxAbsY (addr : Word) (s : State) : Host.Outcome State Fault Refusal :=
  readForm (.absoluteY addr) (costOf 0xBF#8) laxEffect s

/-- `LAS addr,Y`, opcode BB (R260, R108). -/
def execLasAbsY (addr : Word) (s : State) : Host.Outcome State Fault Refusal :=
  readForm (.absoluteY addr) (costOf 0xBB#8) lasEffect s

/-- `ANC #imm`, opcode 0B (R249, R102). -/
def execAncImm0B (imm : Byte) (s : State) : Host.Outcome State Fault Refusal :=
  immediateForm imm (costOf 0x0B#8) ancEffect s

/-- `ANC #imm`, opcode 2B (R249, R102). -/
def execAncImm2B (imm : Byte) (s : State) : Host.Outcome State Fault Refusal :=
  immediateForm imm (costOf 0x2B#8) ancEffect s

/-- `ALR #imm`, opcode 4B (R250, R102). -/
def execAlrImm (imm : Byte) (s : State) : Host.Outcome State Fault Refusal :=
  immediateForm imm (costOf 0x4B#8) alrEffect s

/-- `ARR #imm`, opcode 6B (R251, R102). -/
def execArrImm (imm : Byte) (s : State) : Host.Outcome State Fault Refusal :=
  immediateForm imm (costOf 0x6B#8) arrEffect s

/-- `AXS #imm`, opcode CB (R254, R102). -/
def execAxsImm (imm : Byte) (s : State) : Host.Outcome State Fault Refusal :=
  immediateForm imm (costOf 0xCB#8) axsEffect s

/-- `XAA #imm`, opcode 8B (R252, R102). -/
def execXaaImm (imm : Byte) (s : State) : Host.Outcome State Fault Refusal :=
  immediateForm imm (costOf 0x8B#8) xaaEffect s

/-- `LXA #imm`, opcode AB (R253, R102). -/
def execLxaImm (imm : Byte) (s : State) : Host.Outcome State Fault Refusal :=
  immediateForm imm (costOf 0xAB#8) lxaEffect s

/-- `SBC #imm`, opcode EB (R255, R102). -/
def execSbcImmEB (imm : Byte) (s : State) : Host.Outcome State Fault Refusal :=
  immediateForm imm (costOf 0xEB#8) sbcEffect s

/-- `AHX (zp),Y`, opcode 93 (R256, R111). -/
def execAhxIndY (zp : Byte) (s : State) : Host.Outcome State Fault Refusal :=
  storeForm (.indirectY zp) (costOf 0x93#8) id ahxValue s

/-- `AHX addr,Y`, opcode 9F (R256, R108). -/
def execAhxAbsY (addr : Word) (s : State) : Host.Outcome State Fault Refusal :=
  storeForm (.absoluteY addr) (costOf 0x9F#8) id ahxValue s

/-- `SHY addr,X`, opcode 9C (R257, R107). -/
def execShyAbsX (addr : Word) (s : State) : Host.Outcome State Fault Refusal :=
  storeForm (.absoluteX addr) (costOf 0x9C#8) id shyValue s

/-- `SHX addr,Y`, opcode 9E (R258, R108). -/
def execShxAbsY (addr : Word) (s : State) : Host.Outcome State Fault Refusal :=
  storeForm (.absoluteY addr) (costOf 0x9E#8) id shxValue s

/-- `TAS addr,Y`, opcode 9B (R259, R108). -/
def execTasAbsY (addr : Word) (s : State) : Host.Outcome State Fault Refusal :=
  storeForm (.absoluteY addr) (costOf 0x9B#8) tasBefore tasValue s

/-- `NOP zp`, opcode 04 (R261, R103). -/
def execNopZp04 (zp : Byte) (s : State) : Host.Outcome State Fault Refusal :=
  readForm (.zeroPage zp) (costOf 0x04#8) nopReadEffect s

/-- `NOP addr`, opcode 0C (R261, R106). -/
def execNopAbs0C (addr : Word) (s : State) : Host.Outcome State Fault Refusal :=
  readForm (.absolute addr) (costOf 0x0C#8) nopReadEffect s

/-- `NOP zp,X`, opcode 14 (R261, R104). -/
def execNopZpX14 (zp : Byte) (s : State) : Host.Outcome State Fault Refusal :=
  readForm (.zeroPageX zp) (costOf 0x14#8) nopReadEffect s

/-- `NOP`, opcode 1A (R261, R100). -/
def execNopImp1A (s : State) : Host.Outcome State Fault Refusal :=
  impliedForm (costOf 0x1A#8) nopEffect s

/-- `NOP addr,X`, opcode 1C (R261, R107). -/
def execNopAbsX1C (addr : Word) (s : State) : Host.Outcome State Fault Refusal :=
  readForm (.absoluteX addr) (costOf 0x1C#8) nopReadEffect s

/-- `NOP zp,X`, opcode 34 (R261, R104). -/
def execNopZpX34 (zp : Byte) (s : State) : Host.Outcome State Fault Refusal :=
  readForm (.zeroPageX zp) (costOf 0x34#8) nopReadEffect s

/-- `NOP`, opcode 3A (R261, R100). -/
def execNopImp3A (s : State) : Host.Outcome State Fault Refusal :=
  impliedForm (costOf 0x3A#8) nopEffect s

/-- `NOP addr,X`, opcode 3C (R261, R107). -/
def execNopAbsX3C (addr : Word) (s : State) : Host.Outcome State Fault Refusal :=
  readForm (.absoluteX addr) (costOf 0x3C#8) nopReadEffect s

/-- `NOP zp`, opcode 44 (R261, R103). -/
def execNopZp44 (zp : Byte) (s : State) : Host.Outcome State Fault Refusal :=
  readForm (.zeroPage zp) (costOf 0x44#8) nopReadEffect s

/-- `NOP zp,X`, opcode 54 (R261, R104). -/
def execNopZpX54 (zp : Byte) (s : State) : Host.Outcome State Fault Refusal :=
  readForm (.zeroPageX zp) (costOf 0x54#8) nopReadEffect s

/-- `NOP`, opcode 5A (R261, R100). -/
def execNopImp5A (s : State) : Host.Outcome State Fault Refusal :=
  impliedForm (costOf 0x5A#8) nopEffect s

/-- `NOP addr,X`, opcode 5C (R261, R107). -/
def execNopAbsX5C (addr : Word) (s : State) : Host.Outcome State Fault Refusal :=
  readForm (.absoluteX addr) (costOf 0x5C#8) nopReadEffect s

/-- `NOP zp`, opcode 64 (R261, R103). -/
def execNopZp64 (zp : Byte) (s : State) : Host.Outcome State Fault Refusal :=
  readForm (.zeroPage zp) (costOf 0x64#8) nopReadEffect s

/-- `NOP zp,X`, opcode 74 (R261, R104). -/
def execNopZpX74 (zp : Byte) (s : State) : Host.Outcome State Fault Refusal :=
  readForm (.zeroPageX zp) (costOf 0x74#8) nopReadEffect s

/-- `NOP`, opcode 7A (R261, R100). -/
def execNopImp7A (s : State) : Host.Outcome State Fault Refusal :=
  impliedForm (costOf 0x7A#8) nopEffect s

/-- `NOP addr,X`, opcode 7C (R261, R107). -/
def execNopAbsX7C (addr : Word) (s : State) : Host.Outcome State Fault Refusal :=
  readForm (.absoluteX addr) (costOf 0x7C#8) nopReadEffect s

/-- `NOP #imm`, opcode 80 (R261, R102). -/
def execNopImm80 (imm : Byte) (s : State) : Host.Outcome State Fault Refusal :=
  immediateForm imm (costOf 0x80#8) nopReadEffect s

/-- `NOP #imm`, opcode 82 (R261, R102). -/
def execNopImm82 (imm : Byte) (s : State) : Host.Outcome State Fault Refusal :=
  immediateForm imm (costOf 0x82#8) nopReadEffect s

/-- `NOP #imm`, opcode 89 (R261, R102). -/
def execNopImm89 (imm : Byte) (s : State) : Host.Outcome State Fault Refusal :=
  immediateForm imm (costOf 0x89#8) nopReadEffect s

/-- `NOP #imm`, opcode C2 (R261, R102). -/
def execNopImmC2 (imm : Byte) (s : State) : Host.Outcome State Fault Refusal :=
  immediateForm imm (costOf 0xC2#8) nopReadEffect s

/-- `NOP zp,X`, opcode D4 (R261, R104). -/
def execNopZpXD4 (zp : Byte) (s : State) : Host.Outcome State Fault Refusal :=
  readForm (.zeroPageX zp) (costOf 0xD4#8) nopReadEffect s

/-- `NOP`, opcode DA (R261, R100). -/
def execNopImpDA (s : State) : Host.Outcome State Fault Refusal :=
  impliedForm (costOf 0xDA#8) nopEffect s

/-- `NOP addr,X`, opcode DC (R261, R107). -/
def execNopAbsXDC (addr : Word) (s : State) : Host.Outcome State Fault Refusal :=
  readForm (.absoluteX addr) (costOf 0xDC#8) nopReadEffect s

/-- `NOP #imm`, opcode E2 (R261, R102). -/
def execNopImmE2 (imm : Byte) (s : State) : Host.Outcome State Fault Refusal :=
  immediateForm imm (costOf 0xE2#8) nopReadEffect s

/-- `NOP zp,X`, opcode F4 (R261, R104). -/
def execNopZpXF4 (zp : Byte) (s : State) : Host.Outcome State Fault Refusal :=
  readForm (.zeroPageX zp) (costOf 0xF4#8) nopReadEffect s

/-- `NOP`, opcode FA (R261, R100). -/
def execNopImpFA (s : State) : Host.Outcome State Fault Refusal :=
  impliedForm (costOf 0xFA#8) nopEffect s

/-- `NOP addr,X`, opcode FC (R261, R107). -/
def execNopAbsXFC (addr : Word) (s : State) : Host.Outcome State Fault Refusal :=
  readForm (.absoluteX addr) (costOf 0xFC#8) nopReadEffect s

/-- `JAM`, opcode 02 (R262, R100). -/
def execJam02 (s : State) : Host.Outcome State Fault Refusal :=
  jamForm s

/-- `JAM`, opcode 12 (R262, R100). -/
def execJam12 (s : State) : Host.Outcome State Fault Refusal :=
  jamForm s

/-- `JAM`, opcode 22 (R262, R100). -/
def execJam22 (s : State) : Host.Outcome State Fault Refusal :=
  jamForm s

/-- `JAM`, opcode 32 (R262, R100). -/
def execJam32 (s : State) : Host.Outcome State Fault Refusal :=
  jamForm s

/-- `JAM`, opcode 42 (R262, R100). -/
def execJam42 (s : State) : Host.Outcome State Fault Refusal :=
  jamForm s

/-- `JAM`, opcode 52 (R262, R100). -/
def execJam52 (s : State) : Host.Outcome State Fault Refusal :=
  jamForm s

/-- `JAM`, opcode 62 (R262, R100). -/
def execJam62 (s : State) : Host.Outcome State Fault Refusal :=
  jamForm s

/-- `JAM`, opcode 72 (R262, R100). -/
def execJam72 (s : State) : Host.Outcome State Fault Refusal :=
  jamForm s

/-- `JAM`, opcode 92 (R262, R100). -/
def execJam92 (s : State) : Host.Outcome State Fault Refusal :=
  jamForm s

/-- `JAM`, opcode B2 (R262, R100). -/
def execJamB2 (s : State) : Host.Outcome State Fault Refusal :=
  jamForm s

/-- `JAM`, opcode D2 (R262, R100). -/
def execJamD2 (s : State) : Host.Outcome State Fault Refusal :=
  jamForm s

/-- `JAM`, opcode F2 (R262, R100). -/
def execJamF2 (s : State) : Host.Outcome State Fault Refusal :=
  jamForm s

end Sys2Proof.Machine
end

