-- ==== Sys2Proof/Machine/Fetch.lean ====
section
/-! DEFINITION. What a step does before the instruction's own effect (R120): the NMI poll (R350), the opcode fetch, the
operand bytes, decode. And where `withFetchWord` places an instruction. -/

namespace Sys2Proof.Machine

/-- `n` bytes from an address on, read through the bus in order, addresses modulo 65536 (R64, R67, R90). -/
def readBytes : Nat → Word → State → Access (List Byte)
  | 0, _, s => .ok [] s
  | n + 1, addr, s =>
    (busRead addr s).andThen fun b s =>
    (readBytes n (addr + 1#16) s).andThen fun rest s => .ok (b :: rest) s

/-- How many operand bytes follow an opcode: its row's length less one (R90, R91). -/
def operandCount (op : Byte) : Nat :=
  match opcodeRow op with
  | some row => row.mode.length - 1
  | none => 0

/-- The fetch of one instruction (R24, R67, R120): the opcode at pc, pc moved past it, the operand bytes, decode. A byte
with no row raises UnknownOpcode before any operand access (R302). At a raise, of the opcode fetch too, pc has been
advanced past the opcode byte and not past the operands (R305, D44; log 7). -/
def fetch (s : State) : Access Instr :=
  (busRead s.pc { s with pc := s.pc + 1#16 }).andThen fun op t =>
  (readBytes (operandCount op) (s.pc + 1#16) t).andThen fun operands t =>
  match decode (op :: operands) with
  | .ok i => .ok i t
  | .error _ => raiseUnknownOpcode op s.pc t

/-- A step's beginning on a Running core: the output `frameDone` falls (log 8), a pending NMI is entered, and the
instruction at pc is fetched (R120, R350, R352). -/
def beginStep (s : State) : Access Instr :=
  (pollNmi { s with frameDone := false }).andThen fun _ s => fetch s

/-- The bus cell of an address is one that a byte can be placed in: RAM or program ROM. -/
def holdsByte (s : State) (addr : Word) : Bool :=
  match regionOf s addr with
  | .ram _ => true
  | .rom _ => true
  | .ppu _ => false
  | .unmapped => false

/-- A byte placed in RAM, or in the cartridge's program ROM, from outside the machine (log 5). -/
def placeByte (addr : Word) (v : Byte) (s : State) : State :=
  match regionOf s addr with
  | .ram k => { s with ram := memWrite s.ram k v }
  | .rom k => { s with rom := { s.rom with prg := memWrite s.rom.prg k v } }
  | .ppu _ => s
  | .unmapped => s

/-- The state made ready to fetch at its pc: Running, no NMI pending, and pc at 0x0000 in RAM if the three bytes at pc
cannot all be placed (log 5). -/
def readyToFetch (s : State) : State :=
  let t := { s with status := .running, ppu := { s.ppu with nmiPending := false } }
  if holdsByte t t.pc && holdsByte t (t.pc + 1#16) && holdsByte t (t.pc + 2#16) then t else { t with pc := 0x0000#16 }

/-- The bytes placed from an address on, the first last. -/
def placeBytes : Word → List Byte → State → State
  | _, [], s => s
  | addr, b :: rest, s => placeByte addr b (placeBytes (addr + 1#16) rest s)

end Sys2Proof.Machine
end

