-- ==== Sys2Proof/Machine/Reset.lean ====
section
/-! DEFINITION. The reset signal (R380, R382) and the power-on procedure (R381) with the cartridges it refuses (R9). -/

namespace Sys2Proof.Machine

/-- `Reset()`, R380: the CPU's registers and the run status, then pc from the reset vector. It touches no memory and no
PPU field, pushes nothing and ticks nothing (D21). -/
def resetSignal (s : State) : State :=
  ((busRead16 s.cfg.vecReset
      { s with a := 0x00#8, x := 0x00#8, y := 0x00#8, s := 0xFD#8, p := 0x24#8, status := .running }).andThen
    fun w s => .ok () { s with pc := w }).state

/-- The slot's contents for a cartridge (R9). -/
def loadRom (c : Cartridge) : Rom where
  prg := memOfBytes 0 c.prgRom
  prgSize := if c.prgRom.length = 16384 then .k16 else .k32
  chr := memOfBytes 0 c.chrRom
  mirroring := if c.mirroring = .vertical then .vertical else .horizontal

/-- The block at power-on, before the reset that follows (R381, D20): every PPU field 0, the four memories as given. -/
def powerOnState (cfg : Params) (rom : Rom) (init : InitMemories) : State :=
  { State.reset with
    cfg := cfg
    rom := rom
    ram := memOfBytes 0 init.ram.toList
    ppu :=
      { Ppu.powerOn with
        vram := memOfBytes 0 init.vram.toList
        oam := memOfBytes 0 init.oam.toList
        pal := memOfBytes 0 init.pal.toList } }

/-- The power-on procedure, R381: the cartridge is accepted or refused by name (R9, D19, D29), the block created, and
reset. -/
def powerOn (cfg : Params) (c : Cartridge) (init : InitMemories) : Host.Outcome State Fault Refusal :=
  if !c.prgLengthOk then .refused .cartridgePrgLength
  else if !c.mapperOk then .refused .cartridgeMapper
  else if !c.chrLengthOk then .refused .cartridgeChrLength
  else if !c.mirroringOk then .refused .cartridgeFourScreen
  else .next (resetSignal (powerOnState cfg (loadRom c) init))

end Sys2Proof.Machine
end

