-- ==== Sys2Proof/Machine/Step.lean ====
section
/-! DEFINITION. `Step`, the one transition of the machine (R120), and the state with an instruction placed where the next
step fetches it. -/

namespace Sys2Proof.Machine

/-- `Step()`, R120: a core that is not Running does not change (R44, D31); a Running core polls the NMI, fetches, and
runs the instruction. Everything but the run-status test is in Fetch.lean and Dispatch.lean. -/
def step (s : State) : Host.Outcome State Fault Refusal :=
  match s.status with
  | .running =>
    match beginStep s with
    | .ok i t => exec i t
    | .raised t => .next t
  | .stopped _ => .next s
  | .faulted _ => .next s

/-- The state with an opcode-table word's bytes placed where step fetches its next instruction (log 5). -/
def State.withFetchWord (s : State) (nbits w : Nat) : State :=
  placeBytes (readyToFetch s).pc (tableBytes nbits w) (readyToFetch s)

end Sys2Proof.Machine
end

