-- ==== Sys2Proof/Safety.lean ====
section
/-! DEFINITION. The terms claims are stated in: the machine's invariant, safe and terminal states, the cells a claim about
memory ranges over, where a store goes, and which registers and flags an instruction may write (R21, R22, R29). -/

namespace Sys2Proof.Machine

/-- A memory of `n` bytes in canonical form. -/
abbrev MemoryOk (n : Nat) (m : Memory) : Prop := memoryWf m = true ∧ memoryWithin n m = true

/-- The invariant of the machine: every memory is in canonical form and of its size (R34, R35, R9), the live Break is 0
and Break2 is 1 (R30), the counters rest in 0..340 and 0..261 (R37), and Status bits 6:0 read 0 (R333). -/
structure State.Inv (s : State) : Prop where
  ram : MemoryOk 2048 s.ram
  vram : MemoryOk 2048 s.ppu.vram
  oam : MemoryOk 256 s.ppu.oam
  pal : MemoryOk 32 s.ppu.pal
  prg : MemoryOk s.rom.prgSize.bytes s.rom.prg
  chr : MemoryOk 8192 s.rom.chr
  breakClear : getFlag .b s.p = false
  break2Set : getFlag .u s.p = true
  cycle : s.ppu.cycle ≤ 340
  scanline : s.ppu.scanline ≤ 261
  statusLow : s.ppu.status &&& 0x7F#8 = 0#8

/-- A run is safe while no step has faulted: `Faulted` "is never a successful end" (R44, R122). -/
def State.safe (s : State) : Prop := ∀ reason, s.status ≠ .faulted reason

/-- A terminal state, which only reset leaves (R44, R300). -/
def State.terminal (s : State) : Prop := s.status ≠ .running

/-- One cell of one of the machine's memories. -/
inductive MemCell where
  | ram (k : Nat)
  | vram (k : Nat)
  | oam (k : Nat)
  | pal (k : Nat)
  | prg (k : Nat)
  | chr (k : Nat)
  deriving DecidableEq, Repr

/-- The byte in a cell. -/
def peek (s : State) : MemCell → Byte
  | .ram k => memRead s.ram k
  | .vram k => memRead s.ppu.vram k
  | .oam k => memRead s.ppu.oam k
  | .pal k => memRead s.ppu.pal k
  | .prg k => memRead s.rom.prg k
  | .chr k => memRead s.rom.chr k

/-- The cell a bus write to an address stores to, if it stores to one: RAM, OAM through OAM-data, VRAM or the palette
through Data (R53, R337, R342 to R344); the pattern range, the unmapped range and ROM hold nothing a write changes. -/
def storedCell (addr : Word) (s : State) : Option MemCell :=
  match regionOf s addr with
  | .ram k => some (.ram k)
  | .ppu .oamData => some (.oam s.ppu.oamAddr.toNat)
  | .ppu .data =>
    match ppuMap s.rom.mirroring s.ppu.addr with
    | .vram k => some (.vram k)
    | .pal k => some (.pal k)
    | .chr _ => none
  | .ppu _ => none
  | .unmapped => none
  | .rom _ => none

/-- The first `n` cells a push writes from stack pointer `sp` down, with the stack page at 0x0100 (R22, R51). -/
def pushedCells : Nat → Byte → List MemCell
  | 0, _ => []
  | n + 1, sp => .ram (0x100 + sp.toNat) :: pushedCells n (sp - 1#8)

/-- An address in the PPU register window, 0x2000 to 0x3FFF (R54). -/
abbrev InPpuWindow (addr : Word) : Prop := 0x2000 ≤ addr.toNat ∧ addr.toNat < 0x4000

/-- `M` is read: the operand byte is `v`, read from state `s`, leaving state `u`; `crossed` is the mode's page-crossed
boolean (R15, R102 to R111). -/
def ReadsOperand (o : Operand) (s : State) (v : Byte) (crossed : Bool) (u : State) : Prop :=
  (o = .immediate v ∧ crossed = false ∧ u = s) ∨
  ∃ m pl w, o = .memory m ∧ resolve m s = .ok pl w ∧ busRead pl.ea w = .ok v u ∧ crossed = pl.crossed

/-- A store to memory: the mode resolves to `pl` in state `w`, and writing `v` there from state `w'` leaves `u`. -/
def StoresOperand (o : Operand) (s : State) (pl : Place) (w : State) (v : Byte) (w' u : State) : Prop :=
  ∃ m, o = .memory m ∧ resolve m s = .ok pl w ∧ busWrite pl.ea v w' = .ok () u

/-- A read-modify-write of memory: `v` is read leaving `w`, `r` is written back leaving `u` (R66, R240). -/
def ModifiesOperand (o : Operand) (s : State) (v : Byte) (w : State) (r : Byte) (u : State) : Prop :=
  ∃ m pl w', o = .memory m ∧ resolve m s = .ok pl w' ∧ busRead pl.ea w' = .ok v w ∧ busWrite pl.ea r w = .ok () u

/-- The base cycles of an instruction that reads its operand, as the rules' encodings and opcode_table.json give them by
mode (R94 to R96, R130, R246, R260, R261). -/
def readCycles : Mode → Nat
  | .zeroPage => 3
  | .zeroPageX | .zeroPageY | .absolute | .absoluteX | .absoluteY => 4
  | .indirectY => 5
  | .indirectX => 6
  | _ => 2

/-- The cycles of an instruction that stores a register: an indexed 16-bit mode always pays the cycle that a read pays on a
page cross only (R94 to R96, R133, R245, R256 to R259). -/
def storeCycles : Mode → Nat
  | .zeroPage => 3
  | .zeroPageX | .zeroPageY | .absolute => 4
  | .absoluteX | .absoluteY => 5
  | .indirectX | .indirectY => 6
  | _ => 2

/-- The cycles of an instruction that modifies its operand (R94 to R96, R161, R180 to R183, R241 to R248). -/
def modifyCycles : Mode → Nat
  | .zeroPage => 5
  | .zeroPageX | .absolute => 6
  | .absoluteX | .absoluteY => 7
  | .indirectX | .indirectY => 8
  | _ => 2

end Sys2Proof.Machine

namespace Sys2Proof

open Machine

/-- The instruction loads, adds, compares or tests: it reads its operand and stores nothing to memory. -/
def Mnemonic.reads : Mnemonic → Bool
  | .lda | .ldx | .ldy | .adc | .sbc | .cmp | .cpx | .cpy | .and | .ora | .eor | .bit | .lax | .las => true
  | .anc | .alr | .arr | .axs | .xaa | .lxa | .nop => true
  | _ => false

/-- The instruction stores registers to its memory operand without reading it (R133 to R135, R245, R256 to R259). -/
def Mnemonic.stores : Mnemonic → Bool
  | .sta | .stx | .sty | .sax | .ahx | .shy | .shx | .tas => true
  | _ => false

/-- The instruction modifies its operand (R161, R162, R180 to R183, R241 to R248). -/
def Mnemonic.modifies : Mnemonic → Bool
  | .inc | .dec | .asl | .lsr | .rol | .ror | .slo | .rla | .sre | .rra | .dcp | .isb => true
  | _ => false

/-- How many bytes an instruction pushes (R191, R197, R220, R222). -/
def Mnemonic.pushes : Mnemonic → Nat
  | .pha => 1
  | .php => 1
  | .jsr => 2
  | .brk => 3
  | _ => 0

/-- The instructions that write A (the table of R21). -/
def Instr.writesA (i : Instr) : Bool :=
  match i.mnemonic with
  | .lda | .pla | .txa | .tya | .adc | .sbc | .and | .ora | .eor => true
  | .asl | .lsr | .rol | .ror => i.operand == .accumulator
  | .slo | .rla | .sre | .rra | .lax | .isb | .anc | .alr | .arr | .xaa | .lxa | .las => true
  | _ => false

/-- The instructions that write X (the table of R21). -/
def Instr.writesX (i : Instr) : Bool :=
  match i.mnemonic with
  | .ldx | .tax | .tsx | .inx | .dex | .lax | .axs | .lxa | .las => true
  | _ => false

/-- The instructions that write Y (the table of R21). -/
def Instr.writesY (i : Instr) : Bool :=
  match i.mnemonic with
  | .ldy | .tay | .iny | .dey => true
  | _ => false

/-- The instructions that write S (R22). -/
def Instr.writesS (i : Instr) : Bool :=
  match i.mnemonic with
  | .pha | .php | .pla | .plp | .txs | .jsr | .rts | .rti | .brk | .tas | .las => true
  | _ => false

/-- The instructions that write Z and N (the table of R29). -/
def Mnemonic.writesZN : Mnemonic → Bool
  | .lda | .ldx | .ldy | .tax | .tay | .txa | .tya | .tsx | .pla | .adc | .sbc | .and | .ora | .eor => true
  | .cmp | .cpx | .cpy | .bit | .inc | .dec | .inx | .iny | .dex | .dey | .asl | .lsr | .rol | .ror => true
  | .plp | .rti | .slo | .rla | .sre | .rra | .lax | .dcp | .isb | .anc | .alr | .arr | .axs | .xaa => true
  | .lxa | .las => true
  | _ => false

/-- The instructions that write C (the table of R29). -/
def Mnemonic.writesC : Mnemonic → Bool
  | .adc | .sbc | .cmp | .cpx | .cpy | .asl | .lsr | .rol | .ror | .clc | .sec | .plp | .rti => true
  | .slo | .rla | .sre | .rra | .dcp | .isb | .anc | .alr | .arr | .axs => true
  | _ => false

/-- The instructions that may write a flag (the table of R29); only the status pulls write Break and Break2. -/
def Mnemonic.writesFlag (m : Mnemonic) : Flag → Bool
  | .c => m.writesC
  | .z => m.writesZN
  | .n => m.writesZN
  | .i => [Mnemonic.sei, .cli, .plp, .rti, .brk].contains m
  | .d => [Mnemonic.sed, .cld, .plp, .rti].contains m
  | .v => [Mnemonic.adc, .sbc, .bit, .clv, .plp, .rti, .rra, .isb, .arr].contains m
  | .b => [Mnemonic.plp, .rti].contains m
  | .u => [Mnemonic.plp, .rti].contains m

end Sys2Proof
end

