-- ==== Sys2Proof/Certificates/Slice0/Obligations.lean ====
section
/-! DEFINITION. The statements for the provers, from the numbered rules of spec/. A statement that fixes a parameter of
R11 says so in a hypothesis. `exec i s` runs with `s.pc` at `opaddr + 1` (log 11). -/

open Sys2Proof Sys2Proof.Machine

/-! ## The ALU and its flags -/

/-- `SetZN` (R14): Zero iff the byte is 0, Negative is bit 7, every other flag unchanged. -/
def Obligations.SetZNWritesOnlyZeroAndNegative : Prop :=
  ∀ v p : Byte,
    getFlag .z (setZN v p) = decide (v = 0#8) ∧
    getFlag .n (setZN v p) = v.getLsbD 7 ∧
    ∀ f, f ≠ .z → f ≠ .n → getFlag f (setZN v p) = getFlag f p

/-- The adder (R150): the result is the exact sum modulo 256, the carry says the sum exceeds 0xFF, and the overflow says
exactly that the signed sum lies outside -128 .. 127. -/
def Obligations.AdderCarryAndOverflowMatchTheExactSum : Prop :=
  ∀ (a m : Byte) (c : Bool),
    (addCore a m c.toNat).result.toNat = (a.toNat + m.toNat + c.toNat) % 256 ∧
    ((addCore a m c.toNat).carry = true ↔ 0xFF < a.toNat + m.toNat + c.toNat) ∧
    ((addCore a m c.toNat).overflow = true ↔
      a.toInt + m.toInt + c.toNat < -128 ∨ 127 < a.toInt + m.toInt + c.toNat)

/-- Subtraction as addition of the one's complement (R152): r = (A - M - (1 - C)) mod 256, C set when no borrow
occurred, V set when the signed difference is outside -128 .. 127. -/
def Obligations.SubtractionBorrowAndOverflowMatchTheDifference : Prop :=
  ∀ (a m : Byte) (c : Bool),
    ((addCore a (m ^^^ 0xFF#8) c.toNat).result.toNat : Int) = ((a.toNat : Int) - m.toNat - (1 - c.toNat)) % 256 ∧
    ((addCore a (m ^^^ 0xFF#8) c.toNat).carry = true ↔ m.toNat + (1 - c.toNat) ≤ a.toNat) ∧
    ((addCore a (m ^^^ 0xFF#8) c.toNat).overflow = true ↔
      a.toInt - m.toInt - (1 - c.toNat) < -128 ∨ 127 < a.toInt - m.toInt - (1 - c.toNat))

/-! ## Loads, arithmetic, logic, compare: the operand is read and nothing is stored -/

/-- LDA, LDX, LDY, LAX and LAS load the operand byte and set Z and N from the byte loaded; the page-cross cycle is added
in the indexed modes only, where `crossed` can be true (R130, R131, R132, R246, R260). -/
def Obligations.LoadsWriteTheOperandByteAndSetZN : Prop :=
  ∀ (i : Instr) (s : State) (m : Byte) (crossed : Bool) (u : State),
    ReadsOperand i.operand s m crossed u →
    (i.mnemonic = .lda → exec i s =
      .next (complete (i.length - 1) (readCycles i.mode + crossed.toNat) { u with a := m, p := setZN m u.p })) ∧
    (i.mnemonic = .ldx → exec i s =
      .next (complete (i.length - 1) (readCycles i.mode + crossed.toNat) { u with x := m, p := setZN m u.p })) ∧
    (i.mnemonic = .ldy → exec i s =
      .next (complete (i.length - 1) (readCycles i.mode + crossed.toNat) { u with y := m, p := setZN m u.p })) ∧
    (i.mnemonic = .lax → exec i s =
      .next (complete (i.length - 1) (readCycles i.mode + crossed.toNat) { u with a := m, x := m, p := setZN m u.p })) ∧
    (i.mnemonic = .las → exec i s =
      .next (complete (i.length - 1) (readCycles i.mode + crossed.toNat)
        { u with a := m &&& u.s, x := m &&& u.s, s := m &&& u.s, p := setZN (m &&& u.s) u.p }))

/-- ADC and SBC, the unofficial SBC at 0xEB included: A, C, V, Z and N from the adder, the operand complemented for SBC;
the D flag is no input (R151, R152, R174, R255). -/
def Obligations.AddAndSubtractWriteAAndFourFlags : Prop :=
  ∀ (i : Instr) (s : State) (m : Byte) (crossed : Bool) (u : State),
    ReadsOperand i.operand s m crossed u →
    (i.mnemonic = .adc → exec i s =
      .next (complete (i.length - 1) (readCycles i.mode + crossed.toNat)
        { u with
          a := (addCore u.a m (getFlag .c u.p).toNat).result
          p := setZN (addCore u.a m (getFlag .c u.p).toNat).result
                (setFlag .v (addCore u.a m (getFlag .c u.p).toNat).overflow
                  (setFlag .c (addCore u.a m (getFlag .c u.p).toNat).carry u.p)) })) ∧
    (i.mnemonic = .sbc → exec i s =
      .next (complete (i.length - 1) (readCycles i.mode + crossed.toNat)
        { u with
          a := (addCore u.a (m ^^^ 0xFF#8) (getFlag .c u.p).toNat).result
          p := setZN (addCore u.a (m ^^^ 0xFF#8) (getFlag .c u.p).toNat).result
                (setFlag .v (addCore u.a (m ^^^ 0xFF#8) (getFlag .c u.p).toNat).overflow
                  (setFlag .c (addCore u.a (m ^^^ 0xFF#8) (getFlag .c u.p).toNat).carry u.p)) }))

/-- CMP, CPX and CPY: C is the unsigned register >= operand, Z and N follow the wrapping difference; no register and no
other flag changes (R153, R154, R155, R156). -/
def Obligations.CompareWritesOnlyCarryZeroNegative : Prop :=
  ∀ (i : Instr) (s : State) (m : Byte) (crossed : Bool) (u : State) (r : Byte),
    ReadsOperand i.operand s m crossed u →
    (i.mnemonic = .cmp ∧ r = u.a) ∨ (i.mnemonic = .cpx ∧ r = u.x) ∨ (i.mnemonic = .cpy ∧ r = u.y) →
    exec i s = .next (complete (i.length - 1) (readCycles i.mode + crossed.toNat)
      { u with p := setZN (r - m) (setFlag .c (decide (m.toNat ≤ r.toNat)) u.p) })

/-- AND, ORA and EOR with A, Z and N from the result (R157, R158, R159). -/
def Obligations.LogicWritesAAndSetsZN : Prop :=
  ∀ (i : Instr) (s : State) (m : Byte) (crossed : Bool) (u : State) (r : Byte),
    ReadsOperand i.operand s m crossed u →
    (i.mnemonic = .and ∧ r = u.a &&& m) ∨ (i.mnemonic = .ora ∧ r = u.a ||| m) ∨
      (i.mnemonic = .eor ∧ r = u.a ^^^ m) →
    exec i s = .next (complete (i.length - 1) (readCycles i.mode + crossed.toNat) { u with a := r, p := setZN r u.p })

/-- BIT: Z from A AND M, N and V from bits 7 and 6 of M, nothing else (R160). -/
def Obligations.BitTestsWithoutWritingA : Prop :=
  ∀ (i : Instr) (s : State) (m : Byte) (crossed : Bool) (u : State),
    i.mnemonic = .bit → ReadsOperand i.operand s m crossed u →
    ∃ p, exec i s = .next (complete (i.length - 1) (readCycles i.mode) { u with p := p }) ∧
      getFlag .z p = decide (u.a &&& m = 0#8) ∧ getFlag .n p = m.getLsbD 7 ∧ getFlag .v p = m.getLsbD 6 ∧
      ∀ f, f ≠ .z → f ≠ .n → f ≠ .v → getFlag f p = getFlag f u.p

/-- ANC, ALR, ARR and AXS on their immediate operand (R249, R250, R251, R254). -/
def Obligations.ImmediateCombinationsRunTheirBuildingBlocks : Prop :=
  ∀ (i : Instr) (s : State) (m : Byte),
    i.operand = .immediate m →
    (i.mnemonic = .anc → exec i s = .next (complete 1 2
      { s with a := s.a &&& m, p := setFlag .c ((s.a &&& m).getLsbD 7) (setZN (s.a &&& m) s.p) })) ∧
    (i.mnemonic = .alr → exec i s = .next (complete 1 2
      { s with
        a := (s.a &&& m) >>> 1
        p := setZN ((s.a &&& m) >>> 1) (setFlag .c ((s.a &&& m).getLsbD 0) s.p) })) ∧
    (i.mnemonic = .arr → ∀ r : Byte, r = ((s.a &&& m) >>> 1 ||| if getFlag .c s.p then 0x80#8 else 0x00#8) →
      exec i s = .next (complete 1 2
        { s with
          a := r
          p := setFlag .v (r.getLsbD 6 ^^ r.getLsbD 5) (setFlag .c (r.getLsbD 6) (setZN r s.p)) })) ∧
    (i.mnemonic = .axs → exec i s = .next (complete 1 2
      { s with
        x := (s.a &&& s.x) - m
        p := setZN ((s.a &&& s.x) - m) (setFlag .c (decide (m.toNat ≤ (s.a &&& s.x).toNat)) s.p) }))

/-- XAA and LXA follow the spec's formulas with the parameters XAA_MAGIC and LXA_MAGIC; with the default 0xFF they are
`A <- X & M` and `A <- X <- M` (R252, R253; real chips do not guarantee them: logs 13, 14). -/
def Obligations.UnstableLoadsFollowTheirMagicFormulas : Prop :=
  ∀ (i : Instr) (s : State) (m : Byte),
    i.operand = .immediate m →
    (i.mnemonic = .xaa → ∀ r, r = (s.a ||| s.cfg.xaaMagic) &&& s.x &&& m →
      exec i s = .next (complete 1 2 { s with a := r, p := setZN r s.p }) ∧
      (s.cfg.xaaMagic = 0xFF#8 → r = s.x &&& m)) ∧
    (i.mnemonic = .lxa → ∀ r, r = (s.a ||| s.cfg.lxaMagic) &&& m →
      exec i s = .next (complete 1 2 { s with a := r, x := r, p := setZN r s.p }) ∧
      (s.cfg.lxaMagic = 0xFF#8 → r = m))

/-- NOP, official and unofficial: no register and no flag changes; the forms with a memory operand read it once and keep
the read's side effects (R195, R261). -/
def Obligations.NopReadsItsOperandAndChangesNothingElse : Prop :=
  ∀ (i : Instr) (s : State),
    i.mnemonic = .nop →
    (i.operand = .implied → exec i s = .next (complete 0 2 s)) ∧
    ∀ m crossed u, ReadsOperand i.operand s m crossed u →
      exec i s = .next (complete (i.length - 1) (readCycles i.mode + crossed.toNat) u)

/-! ## Stores and read-modify-write -/

/-- STA, STX, STY and SAX store A, X, Y and A AND X at the effective address; no flag changes and no page-cross cycle is
added (R133, R134, R135, R245). -/
def Obligations.StoresWriteTheirRegister : Prop :=
  ∀ (i : Instr) (s : State) (pl : Place) (w : State) (v : Byte) (u : State),
    (i.mnemonic = .sta ∧ v = w.a) ∨ (i.mnemonic = .stx ∧ v = w.x) ∨ (i.mnemonic = .sty ∧ v = w.y) ∨
      (i.mnemonic = .sax ∧ v = w.a &&& w.x) →
    StoresOperand i.operand s pl w v w u →
    exec i s = .next (complete (i.length - 1) (storeCycles i.mode) u)

/-- AHX, SHY, SHX and TAS store a register value ANDed with one plus the high byte of the unindexed base, at the ordinary
effective address; TAS first sets S to A AND X (R256, R257, R258, R259; the spec's formulas: log 15). -/
def Obligations.HighByteStoresMaskWithBasePlusOne : Prop :=
  ∀ (i : Instr) (s : State) (pl : Place) (w : State) (v : Byte) (w' u : State),
    (i.mnemonic = .ahx ∧ w' = w ∧ v = w.a &&& w.x &&& (highByte pl.base + 1#8)) ∨
      (i.mnemonic = .shy ∧ w' = w ∧ v = w.y &&& (highByte pl.base + 1#8)) ∨
      (i.mnemonic = .shx ∧ w' = w ∧ v = w.x &&& (highByte pl.base + 1#8)) ∨
      (i.mnemonic = .tas ∧ w' = { w with s := w.a &&& w.x } ∧ v = w.a &&& w.x &&& (highByte pl.base + 1#8)) →
    StoresOperand i.operand s pl w v w' u →
    exec i s = .next (complete (i.length - 1) (storeCycles i.mode) u)

/-- INC and DEC: one read, one write of the byte plus or minus 1 modulo 256, Z and N from it, C and V untouched
(R161, R162). -/
def Obligations.IncrementAndDecrementMemoryWrap : Prop :=
  ∀ (i : Instr) (s : State) (v : Byte) (w : State) (r : Byte) (u : State),
    (i.mnemonic = .inc ∧ r = v + 1#8) ∨ (i.mnemonic = .dec ∧ r = v - 1#8) →
    ModifiesOperand i.operand s v w r u →
    exec i s = .next (complete (i.length - 1) (modifyCycles i.mode) { u with p := setZN r u.p })

/-- The shifts and rotates by one bit of A or of memory: the result and the bit shifted out, the old carry entering the
rotates; C, Z and N follow (R180, R181, R182, R183, R184). -/
def Obligations.ShiftsMoveOneBitThroughCarry : Prop :=
  ∀ (i : Instr) (s : State) (v r : Byte) (out carry : Bool),
    (i.mnemonic = .asl ∧ r = v <<< 1 ∧ out = v.getLsbD 7) ∨
      (i.mnemonic = .lsr ∧ r = v >>> 1 ∧ out = v.getLsbD 0) ∨
      (i.mnemonic = .rol ∧ r = (v <<< 1 ||| if carry then 0x01#8 else 0x00#8) ∧ out = v.getLsbD 7) ∨
      (i.mnemonic = .ror ∧ r = (v >>> 1 ||| if carry then 0x80#8 else 0x00#8) ∧ out = v.getLsbD 0) →
    carry = getFlag .c s.p →
    (i.operand = .accumulator → v = s.a →
      exec i s = .next (complete 0 2 { s with a := r, p := setZN r (setFlag .c out s.p) })) ∧
    ∀ w u, ModifiesOperand i.operand s v w r u →
      exec i s = .next (complete (i.length - 1) (modifyCycles i.mode) { u with p := setZN r (setFlag .c out u.p) })

/-- SLO, RLA, SRE, RRA, DCP and ISB run their two official building blocks in sequence on one read and one write
(R240, R241, R242, R243, R244, R247, R248). -/
def Obligations.CombinedModifyInstructionsRunBothBlocks : Prop :=
  ∀ (i : Instr) (s : State) (v : Byte) (w : State) (r : Byte) (u : State),
    ModifiesOperand i.operand s v w r u →
    (i.mnemonic = .slo → r = v <<< 1 →
      exec i s = .next (complete (i.length - 1) (modifyCycles i.mode)
        { u with a := u.a ||| r, p := setZN (u.a ||| r) (setFlag .c (v.getLsbD 7) u.p) })) ∧
    (i.mnemonic = .rla → r = (v <<< 1 ||| if getFlag .c s.p then 0x01#8 else 0x00#8) →
      exec i s = .next (complete (i.length - 1) (modifyCycles i.mode)
        { u with a := u.a &&& r, p := setZN (u.a &&& r) (setFlag .c (v.getLsbD 7) u.p) })) ∧
    (i.mnemonic = .sre → r = v >>> 1 →
      exec i s = .next (complete (i.length - 1) (modifyCycles i.mode)
        { u with a := u.a ^^^ r, p := setZN (u.a ^^^ r) (setFlag .c (v.getLsbD 0) u.p) })) ∧
    (i.mnemonic = .rra → r = (v >>> 1 ||| if getFlag .c s.p then 0x80#8 else 0x00#8) →
      ∀ sum, sum = addCore u.a r (v.getLsbD 0).toNat →
      exec i s = .next (complete (i.length - 1) (modifyCycles i.mode)
        { u with
          a := sum.result
          p := setZN sum.result (setFlag .v sum.overflow (setFlag .c sum.carry u.p)) })) ∧
    (i.mnemonic = .dcp → r = v - 1#8 →
      exec i s = .next (complete (i.length - 1) (modifyCycles i.mode)
        { u with p := setZN (u.a - r) (setFlag .c (decide (r.toNat ≤ u.a.toNat)) u.p) })) ∧
    (i.mnemonic = .isb → r = v + 1#8 →
      ∀ sum, sum = addCore u.a (r ^^^ 0xFF#8) (getFlag .c u.p).toNat →
      exec i s = .next (complete (i.length - 1) (modifyCycles i.mode)
        { u with
          a := sum.result
          p := setZN sum.result (setFlag .v sum.overflow (setFlag .c sum.carry u.p)) }))

/-! ## Implied instructions -/

/-- The six transfers: five set Z and N from the byte moved, TXS touches no flag (R136 to R141). INX, INY, DEX and DEY wrap
modulo 256 and set Z and N; C and V untouched (R163 to R166). -/
def Obligations.TransfersAndIndexIncrementsWriteOneRegister : Prop :=
  ∀ s : State,
    exec .tax s = .next (complete 0 2 { s with x := s.a, p := setZN s.a s.p }) ∧
    exec .tay s = .next (complete 0 2 { s with y := s.a, p := setZN s.a s.p }) ∧
    exec .txa s = .next (complete 0 2 { s with a := s.x, p := setZN s.x s.p }) ∧
    exec .tya s = .next (complete 0 2 { s with a := s.y, p := setZN s.y s.p }) ∧
    exec .tsx s = .next (complete 0 2 { s with x := s.s, p := setZN s.s s.p }) ∧
    exec .txs s = .next (complete 0 2 { s with s := s.x }) ∧
    exec .inx s = .next (complete 0 2 { s with x := s.x + 1#8, p := setZN (s.x + 1#8) s.p }) ∧
    exec .iny s = .next (complete 0 2 { s with y := s.y + 1#8, p := setZN (s.y + 1#8) s.p }) ∧
    exec .dex s = .next (complete 0 2 { s with x := s.x - 1#8, p := setZN (s.x - 1#8) s.p }) ∧
    exec .dey s = .next (complete 0 2 { s with y := s.y - 1#8, p := setZN (s.y - 1#8) s.p })

/-- The seven flag instructions write one flag and nothing else (R224 to R230). -/
def Obligations.FlagInstructionsWriteOneFlag : Prop :=
  ∀ (i : Instr) (f : Flag) (v : Bool),
    (i, f, v) ∈ [(Instr.clc, Flag.c, false), (.sec, .c, true), (.cli, .i, false), (.sei, .i, true),
      (.cld, .d, false), (.sed, .d, true), (.clv, .v, false)] →
    ∀ s : State, ∃ p, exec i s = .next (complete 0 2 { s with p := p }) ∧
      getFlag f p = v ∧ ∀ g, g ≠ f → getFlag g p = getFlag g s.p

/-! ## Control transfer -/

/-- The eight branches (R193, R198 to R205): taken when their flag has the stated value, to `opaddr + 2` plus the signed
offset, at 2 cycles, 3 when taken, 4 when taken into another page; not taken they end at `opaddr + 2`. -/
def Obligations.BranchesFollowTheirFlag : Prop :=
  ∀ (rel : Byte) (i : Instr) (f : Flag) (v : Bool),
    (i, f, v) ∈ [(Instr.bcc rel, Flag.c, false), (.bcs rel, .c, true), (.beq rel, .z, true), (.bne rel, .z, false),
      (.bmi rel, .n, true), (.bpl rel, .n, false), (.bvc rel, .v, false), (.bvs rel, .v, true)] →
    ∀ (s : State) (opaddr target : Word),
      s.pc = opaddr + 1#16 → target = opaddr + 2#16 + rel.signExtend 16 →
      (getFlag f s.p = v → exec i s = .next (tick
        (if highByte target = highByte (opaddr + 2#16) then 3 else 4) { s with pc := target })) ∧
      (getFlag f s.p ≠ v → exec i s = .next (tick 2 { s with pc := opaddr + 2#16 }))

/-- JMP absolute and indirect (R190, R109): the pointer's high byte comes from the start of the pointer's own page when
its low byte is 0xFF; no flag and no stack access. -/
def Obligations.JumpIndirectWrapsInsideThePage : Prop :=
  ∀ s : State,
    (∀ addr, exec (.jmpAbs addr) s = .next (tick 3 { s with pc := addr })) ∧
    ∀ (ptr : Word) (lo hi : Byte) (t u : State),
      busRead ptr s = .ok lo t →
      busRead (if lowByte ptr = 0xFF#8 then ptr &&& 0xFF00#16 else ptr + 1#16) t = .ok hi u →
      exec (.jmpInd ptr) s = .next (tick 5 { u with pc := joinBytes hi lo })

/-- JSR pushes the address of its own last byte, high byte first, and jumps (R191), with the stack page in RAM. -/
def Obligations.JsrPushesItsLastByteAddress : Prop :=
  ∀ (addr opaddr : Word) (s : State),
    s.cfg.stackBase = 0x0100#16 → s.pc = opaddr + 1#16 →
    exec (.jsr addr) s = .next (tick 6
      { s with
        ram := memWrite (memWrite s.ram (0x100 + s.s.toNat) (highByte (opaddr + 2#16)))
          (0x100 + (s.s - 1#8).toNat) (lowByte (opaddr + 2#16))
        s := s.s - 2#8
        pc := addr })

/-- RTS pulls a word, low byte first, and continues one past it (R192). RTI pulls the status (Break 0, Break2 1, six flags
from the byte), then the return address, plus RTI_PC_ADJUST (R196, R323). Both with the stack page in RAM. -/
def Obligations.ReturnsPullTheirFrame : Prop :=
  ∀ s : State,
    s.cfg.stackBase = 0x0100#16 →
    exec .rts s = .next (tick 6
      { s with
        s := s.s + 2#8
        pc := joinBytes (memRead s.ram (0x100 + (s.s + 2#8).toNat)) (memRead s.ram (0x100 + (s.s + 1#8).toNat)) +
          1#16 }) ∧
    exec .rti s = .next (tick 6
      { s with
        s := s.s + 3#8
        p := (memRead s.ram (0x100 + (s.s + 1#8).toNat) &&& 0xCF#8) ||| 0x20#8
        pc := joinBytes (memRead s.ram (0x100 + (s.s + 3#8).toNat)) (memRead s.ram (0x100 + (s.s + 2#8).toNat)) +
          BitVec.ofNat 16 s.cfg.rtiPcAdjust.val })

/-- BRK with I = 0 enters the interrupt sequence (R197, R320, R321): the frame holds `opaddr + 1` and the status with
Break and Break2 set, I becomes 1, the costs are ticked, and pc comes from the BRK vector in ROM. -/
def Obligations.BrkTrapsThroughItsVectorWhenEnabled : Prop :=
  ∀ s : State,
    s.cfg.stackBase = 0x0100#16 → s.cfg.vecBrk = 0xFFFE#16 → s.cfg.prgBase = 0x8000#16 → getFlag .i s.p = false →
    exec .brk s = .next (tick 7 (tick s.cfg.brkCycles
      { s with
        ram := memWrite (memWrite (memWrite s.ram (0x100 + s.s.toNat) (highByte s.pc))
          (0x100 + (s.s - 1#8).toNat) (lowByte s.pc)) (0x100 + (s.s - 2#8).toNat) ((s.p &&& 0xCF#8) ||| 0x30#8)
        s := s.s - 3#8
        p := setFlag .i true s.p
        pc := joinBytes (memRead s.rom.prg (0x7FFF % s.rom.prgSize.bytes))
          (memRead s.rom.prg (0x7FFE % s.rom.prgSize.bytes)) }))

/-- The controlled stops (R197, R262, R306): JAM always, and BRK with I = 1, set the run status and change nothing else;
no Tick. -/
def Obligations.JamAndMaskedBrkStopTheCore : Prop :=
  ∀ (i : Instr) (s : State),
    (i.mnemonic = .jam → exec i s = .next { s with status := .stopped .jam }) ∧
    (i.mnemonic = .brk → getFlag .i s.p = true → exec i s = .next { s with status := .stopped .brk })

/-! ## The stack -/

/-- PHA pushes A; PHP pushes P with Break and Break2 set in the copy, the live P unchanged; PLA loads A and sets Z and N;
PLP loads P with Break 0 and Break2 1 (R220, R221, R222, R223), with the stack page in RAM. -/
def Obligations.StackInstructionsPushAndPullOneByte : Prop :=
  ∀ (s : State) (v : Byte),
    s.cfg.stackBase = 0x0100#16 → v = memRead s.ram (0x100 + (s.s + 1#8).toNat) →
    exec .pha s = .next (complete 0 3
      { s with ram := memWrite s.ram (0x100 + s.s.toNat) s.a, s := s.s - 1#8 }) ∧
    exec .php s = .next (complete 0 3
      { s with ram := memWrite s.ram (0x100 + s.s.toNat) (s.p ||| 0x30#8), s := s.s - 1#8 }) ∧
    exec .pla s = .next (complete 0 4 { s with s := s.s + 1#8, a := v, p := setZN v s.p }) ∧
    exec .plp s = .next (complete 0 4 { s with s := s.s + 1#8, p := (v &&& 0xCF#8) ||| 0x20#8 })

/-- A 16-bit push followed by a 16-bit pull returns the word and the old stack pointer, from every stack pointer, the
wrapping ones included (R231, R51), in every state that meets the invariant. -/
def Obligations.PushThenPullReturnsTheWord : Prop :=
  ∀ (w : Word) (s : State),
    s.Inv → s.cfg.stackBase = 0x0100#16 →
    ∃ t, push16 w s = .ok () t ∧ pull16 t = .ok w { t with s := s.s }

/-- JSR, then RTS at the target, continues right after the JSR with S and P as before (R191, R192). -/
def Obligations.JsrThenRtsReturnsAfterTheCall : Prop :=
  ∀ (addr opaddr : Word) (s t : State),
    s.Inv → s.cfg.stackBase = 0x0100#16 → s.pc = opaddr + 1#16 → exec (.jsr addr) s = .next t →
    ∃ u, exec .rts t = .next u ∧ u.pc = opaddr + 3#16 ∧ u.s = s.s ∧ u.p = s.p

/-! ## Addressing modes -/

/-- The modes without a pointer (R103 to R108): page-0 sums wrap modulo 256, 16-bit sums modulo 65536, and `crossed` says
that the high byte changed. -/
def Obligations.DirectAndIndexedModesResolve : Prop :=
  ∀ (zp : Byte) (base : Word) (s : State),
    resolve (.zeroPage zp) s = .ok ⟨zp.zeroExtend 16, zp.zeroExtend 16, false⟩ s ∧
    resolve (.zeroPageX zp) s = .ok ⟨(zp + s.x).zeroExtend 16, (zp + s.x).zeroExtend 16, false⟩ s ∧
    resolve (.zeroPageY zp) s = .ok ⟨(zp + s.y).zeroExtend 16, (zp + s.y).zeroExtend 16, false⟩ s ∧
    resolve (.absolute base) s = .ok ⟨base, base, false⟩ s ∧
    (∃ pl, resolve (.absoluteX base) s = .ok pl s ∧ pl.base = base ∧
      pl.ea.toNat = (base.toNat + s.x.toNat) % 65536 ∧
      (pl.crossed = true ↔ pl.ea.toNat / 256 ≠ base.toNat / 256)) ∧
    ∃ pl, resolve (.absoluteY base) s = .ok pl s ∧ pl.base = base ∧
      pl.ea.toNat = (base.toNat + s.y.toNat) % 65536 ∧
      (pl.crossed = true ↔ pl.ea.toNat / 256 ≠ base.toNat / 256)

/-- The pointer modes (R110, R111): both pointer bytes come from page 0, the second at the next offset modulo 256;
IndirectY adds Y to the pointer and reports a page cross. -/
def Obligations.PointerModesReadPageZero : Prop :=
  ∀ (zp : Byte) (s : State),
    (∀ ptr, ptr = joinBytes (memRead s.ram ((zp + s.x) + 1#8).toNat) (memRead s.ram (zp + s.x).toNat) →
      resolve (.indirectX zp) s = .ok ⟨ptr, ptr, false⟩ s) ∧
    ∀ ptr, ptr = joinBytes (memRead s.ram (zp + 1#8).toNat) (memRead s.ram zp.toNat) →
      ∃ pl, resolve (.indirectY zp) s = .ok pl s ∧ pl.base = ptr ∧
        pl.ea.toNat = (ptr.toNat + s.y.toNat) % 65536 ∧
        (pl.crossed = true ↔ pl.ea.toNat / 256 ≠ ptr.toNat / 256)

/-! ## The bus -/

/-- The CPU address map for plain memory (R53, R56, R59, R60, R61) with the ROM window at 0x8000: RAM mirrored every
0x800, the unmapped range, and program ROM mirrored by its size; a read changes nothing, a RAM write its cell, an
unmapped write nothing. The 16-bit accesses take the low byte at the address first, then the high byte at the next address
modulo 65536 (R14, R50, D23), which the wrap at 0xFFFF shows. -/
def Obligations.BusDecodesRamUnmappedAndRom : Prop :=
  ∀ (addr : Word) (v : Byte) (s : State),
    s.cfg.prgBase = 0x8000#16 →
    (addr.toNat ≤ 0x1FFF →
      busRead addr s = .ok (memRead s.ram (addr.toNat % 0x800)) s ∧
      busWrite addr v s = .ok () { s with ram := memWrite s.ram (addr.toNat % 0x800) v }) ∧
    (0x4000 ≤ addr.toNat → addr.toNat ≤ 0x7FFF →
      busRead addr s = .ok s.cfg.unmappedRead s ∧ busWrite addr v s = .ok () s) ∧
    (0x8000 ≤ addr.toNat →
      busRead addr s = .ok (memRead s.rom.prg ((addr.toNat - 0x8000) % s.rom.prgSize.bytes)) s) ∧
    ∀ w : Word,
      (addr.toNat < 0x1FFF →
        busRead16 addr s =
          .ok (joinBytes (memRead s.ram ((addr.toNat + 1) % 0x800)) (memRead s.ram (addr.toNat % 0x800))) s ∧
        busWrite16 addr w s = .ok ()
          { s with
            ram := memWrite (memWrite s.ram (addr.toNat % 0x800) (lowByte w)) ((addr.toNat + 1) % 0x800) (highByte w) }) ∧
      busRead16 0xFFFF#16 s =
        .ok (joinBytes (memRead s.ram 0) (memRead s.rom.prg (0x7FFF % s.rom.prgSize.bytes))) s ∧
      (s.cfg.invalidAccess = .fatal → busWrite16 0xFFFF#16 w s =
        .raised { s with status := .faulted (.invalidAccess .writeRom 0xFFFF#16) }) ∧
      (s.cfg.invalidAccess = .ignore → busWrite16 0xFFFF#16 w s =
        .ok () { s with ram := memWrite s.ram 0 (highByte w) })

/-- InvalidAccess (R62, R303): under the policy fatal exactly the writes to ROM, the writes to Status and the reads of the
five write-only registers raise, and they change the run status only; under ignore they change nothing, the read giving
0x00. -/
def Obligations.ForbiddenAccessesFaultAndChangeNothingElse : Prop :=
  ∀ (addr : Word) (v : Byte) (s : State),
    s.cfg.prgBase = 0x8000#16 →
    (0x8000 ≤ addr.toNat →
      (s.cfg.invalidAccess = .fatal → busWrite addr v s =
        .raised { s with status := .faulted (.invalidAccess .writeRom addr) }) ∧
      (s.cfg.invalidAccess = .ignore → busWrite addr v s = .ok () s)) ∧
    (InPpuWindow addr → addr.toNat % 8 = 2 →
      (s.cfg.invalidAccess = .fatal → busWrite addr v s =
        .raised { s with status := .faulted (.invalidAccess .writeStatus addr) }) ∧
      (s.cfg.invalidAccess = .ignore → busWrite addr v s = .ok () s)) ∧
    (InPpuWindow addr → addr.toNat % 8 ∈ [0, 1, 3, 5, 6] →
      (s.cfg.invalidAccess = .fatal → busRead addr s =
        .raised { s with status := .faulted (.invalidAccess .readWriteOnly addr) }) ∧
      (s.cfg.invalidAccess = .ignore → busRead addr s = .ok 0x00#8 s)) ∧
    ((∃ t, busRead addr s = .raised t) → InPpuWindow addr ∧ addr.toNat % 8 ∈ [0, 1, 3, 5, 6]) ∧
    ((∃ t, busWrite addr v s = .raised t) → 0x8000 ≤ addr.toNat ∨ (InPpuWindow addr ∧ addr.toNat % 8 = 2))

/-- State at a raise (R305): when the operand read, the store or the write back of a memory instruction raises, the
instruction ends in exactly the raising access's state: no register, no flag and no pc is written after it, and nothing
ticks. What was written before stays: TAS has written S by then (R259). The same for the two pointer reads of JMP
indirect (R109). -/
def Obligations.RaisedAccessEndsTheInstruction : Prop :=
  (∀ (ptr : Word) (s t : State),
    (busRead ptr s = .raised t → exec (.jmpInd ptr) s = .next t) ∧
    ∀ lo u, busRead ptr s = .ok lo u →
      busRead (if lowByte ptr = 0xFF#8 then ptr &&& 0xFF00#16 else ptr + 1#16) u = .raised t →
      exec (.jmpInd ptr) s = .next t) ∧
  ∀ (i : Instr) (m : MemForm) (s : State) (pl : Place) (w t : State),
    i.operand = .memory m → resolve m s = .ok pl w →
    (i.mnemonic.reads = true ∨ i.mnemonic.modifies = true → busRead pl.ea w = .raised t → exec i s = .next t) ∧
    (i.mnemonic.modifies = true → ∀ v u, busRead pl.ea w = .ok v u →
      (∀ r, ∃ t', busWrite pl.ea r u = .raised t') →
      exec i s = .next { u with status := .faulted (.invalidAccess
        (if InPpuWindow pl.ea then .writeStatus else .writeRom) pl.ea) }) ∧
    (i.mnemonic.stores = true → i.mnemonic ≠ .tas → (∀ v, ∃ t', busWrite pl.ea v w = .raised t') →
      exec i s = .next { w with status := .faulted (.invalidAccess
        (if InPpuWindow pl.ea then .writeStatus else .writeRom) pl.ea) }) ∧
    (i.mnemonic = .tas → (∀ v, ∃ t', busWrite pl.ea v w = .raised t') →
      exec i s = .next { w with
        s := w.a &&& w.x
        status := .faulted (.invalidAccess (if InPpuWindow pl.ea then .writeStatus else .writeRom) pl.ea) })

/-! ## The PPU registers -/

/-- Status (R334): the read returns the snapshot, clears the vblank bit and resets the write latch, and touches nothing
else; a write raises, under the policy fatal. -/
def Obligations.StatusReadClearsVblankAndLatch : Prop :=
  ∀ (addr : Word) (s : State),
    InPpuWindow addr → addr.toNat % 8 = 2 →
    busRead addr s = .ok s.ppu.status { s with ppu := { s.ppu with status := s.ppu.status &&& 0x7F#8, w := false } } ∧
    (s.cfg.invalidAccess = .fatal → ∀ v, busWrite addr v s =
      .raised { s with status := .faulted (.invalidAccess .writeStatus addr) })

/-- Control (R331, R312): the byte is stored, and the NMI is requested exactly by the rising edge of bit 7 while the
vblank bit is set; a request already pending stays. A read raises, under the policy fatal. -/
def Obligations.ControlWriteRaisesNmiOnTheEnableEdge : Prop :=
  ∀ (addr : Word) (v : Byte) (s : State),
    InPpuWindow addr → addr.toNat % 8 = 0 →
    (∃ pending, busWrite addr v s = .ok () { s with ppu := { s.ppu with ctrl := v, nmiPending := pending } } ∧
      (pending = true ↔ s.ppu.nmiPending = true ∨
        (s.ppu.ctrl.getLsbD 7 = false ∧ v.getLsbD 7 = true ∧ s.ppu.status.getLsbD 7 = true))) ∧
    (s.cfg.invalidAccess = .fatal →
      busRead addr s = .raised { s with status := .faulted (.invalidAccess .readWriteOnly addr) })

/-- Mask and OAM-address (R332, R335): a write stores the byte and does nothing else; a read raises, under the policy
fatal. -/
def Obligations.MaskAndOamAddressWritesStore : Prop :=
  ∀ (addr : Word) (v : Byte) (s : State),
    InPpuWindow addr →
    (addr.toNat % 8 = 1 → busWrite addr v s = .ok () { s with ppu := { s.ppu with mask := v } }) ∧
    (addr.toNat % 8 = 3 → busWrite addr v s = .ok () { s with ppu := { s.ppu with oamAddr := v } }) ∧
    (addr.toNat % 8 ∈ [1, 3] → s.cfg.invalidAccess = .fatal →
      busRead addr s = .raised { s with status := .faulted (.invalidAccess .readWriteOnly addr) })

/-- Scroll and Address, each written twice, share the write latch (R339, R340): the first Scroll write sets the vertical
and the second the horizontal offset; the first Address write sets the high byte of the 14-bit address and keeps the low
one, the second the low byte; a Scroll write makes an Address write after it the second of the pair. Reading either
raises, under the policy fatal. -/
def Obligations.ScrollAndAddressShareOneLatch : Prop :=
  ∀ (scroll address : Word) (v v2 : Byte) (s : State),
    InPpuWindow scroll → scroll.toNat % 8 = 5 → InPpuWindow address → address.toNat % 8 = 6 →
    (s.ppu.w = false →
      busWrite scroll v s = .ok () { s with ppu := { s.ppu with scrollV := v, w := true } } ∧
      busWrite address v s = .ok () { s with ppu := { s.ppu with
        addr := BitVec.ofNat 14 (v.toNat * 256 + s.ppu.addr.toNat % 256)
        w := true } } ∧
      (busWrite address v s).andThen (fun _ t => busWrite address v2 t) =
        .ok () { s with ppu := { s.ppu with addr := BitVec.ofNat 14 (v.toNat * 256 + v2.toNat), w := false } } ∧
      (busWrite scroll v s).andThen (fun _ t => busWrite address v2 t) =
        .ok () { s with ppu := { s.ppu with
          scrollV := v
          addr := BitVec.ofNat 14 (s.ppu.addr.toNat / 256 * 256 + v2.toNat)
          w := false } }) ∧
    (s.ppu.w = true →
      busWrite scroll v s = .ok () { s with ppu := { s.ppu with scrollH := v, w := false } } ∧
      busWrite address v s = .ok () { s with ppu := { s.ppu with
        addr := BitVec.ofNat 14 (s.ppu.addr.toNat / 256 * 256 + v.toNat)
        w := false } }) ∧
    (s.cfg.invalidAccess = .fatal →
      busRead scroll s = .raised { s with status := .faulted (.invalidAccess .readWriteOnly scroll) } ∧
      busRead address s = .raised { s with status := .faulted (.invalidAccess .readWriteOnly address) })

/-- Data, read (R341, R343): below 0x3F00 the previous buffer byte is returned and the buffer refilled from the addressed
byte, of character ROM below 0x2000 and of VRAM from 0x2000 on, the mirror at 0x3000 included; palette addresses return
their byte at once and leave the buffer; the address moves on by 1 or 32, modulo 0x4000. -/
def Obligations.DataReadLagsByOneExceptThePalette : Prop :=
  ∀ (addr : Word) (s : State) (next : PpuAddr),
    InPpuWindow addr → addr.toNat % 8 = 7 →
    next = BitVec.ofNat 14 (s.ppu.addr.toNat + if s.ppu.ctrl.getLsbD 2 then 32 else 1) →
    (s.ppu.addr.toNat < 0x2000 → busRead addr s =
      .ok s.ppu.buf { s with ppu := { s.ppu with buf := memRead s.rom.chr s.ppu.addr.toNat, addr := next } }) ∧
    (0x2000 ≤ s.ppu.addr.toNat → s.ppu.addr.toNat < 0x3F00 → busRead addr s =
      .ok s.ppu.buf { s with ppu := { s.ppu with
        buf := memRead s.ppu.vram (ntMap s.rom.mirroring (0x2000 + s.ppu.addr.toNat % 0x1000))
        addr := next } }) ∧
    (0x3F00 ≤ s.ppu.addr.toNat → busRead addr s =
      .ok (memRead s.ppu.pal (s.ppu.addr.toNat % 32)) { s with ppu := { s.ppu with addr := next } })

/-- Data and OAM-data, write (R342, R344, R337): name-table and palette bytes are stored, a write to the pattern range is
discarded, the address moves on either way; the OAM cursor moves on modulo 256, and reading OAM-data moves nothing. -/
def Obligations.DataAndOamWritesStoreAndAdvance : Prop :=
  ∀ (data oam : Word) (v : Byte) (s : State) (next : PpuAddr),
    InPpuWindow data → data.toNat % 8 = 7 → InPpuWindow oam → oam.toNat % 8 = 4 →
    next = BitVec.ofNat 14 (s.ppu.addr.toNat + if s.ppu.ctrl.getLsbD 2 then 32 else 1) →
    (s.ppu.addr.toNat < 0x2000 →
      busWrite data v s = .ok () { s with ppu := { s.ppu with addr := next } }) ∧
    (0x2000 ≤ s.ppu.addr.toNat → s.ppu.addr.toNat < 0x3F00 →
      busWrite data v s = .ok () { s with ppu := { s.ppu with
        vram := memWrite s.ppu.vram (ntMap s.rom.mirroring (0x2000 + s.ppu.addr.toNat % 0x1000)) v
        addr := next } }) ∧
    (0x3F00 ≤ s.ppu.addr.toNat →
      busWrite data v s = .ok () { s with ppu := { s.ppu with
        pal := memWrite s.ppu.pal (s.ppu.addr.toNat % 32) v
        addr := next } }) ∧
    busWrite oam v s = .ok () { s with ppu := { s.ppu with
      oam := memWrite s.ppu.oam s.ppu.oamAddr.toNat v
      oamAddr := s.ppu.oamAddr + 1#8 } } ∧
    busRead oam s = .ok (memRead s.ppu.oam s.ppu.oamAddr.toNat) s

/-- Name-table mirroring (R345): each logical table of 0x400 bytes is one VRAM half, Horizontal pairing tables 0 with 1
and 2 with 3, Vertical pairing 0 with 2 and 1 with 3; no index leaves the 2 KiB. -/
def Obligations.NameTablesFoldOntoTwoHalves : Prop :=
  ∀ (layout : NtLayout) (nt off : Nat),
    nt < 4 → off < 0x400 →
    ntMap layout (0x2000 + nt * 0x400 + off) =
      (match layout with
       | .horizontal => if nt < 2 then off else 0x400 + off
       | .vertical => if nt = 0 ∨ nt = 2 then off else 0x400 + off) ∧
    ntMap layout (0x2000 + nt * 0x400 + off) < 0x800

/-- A byte written through Data at a name-table address is read back by the second Data read there (R346): after an
Address pair and a Data write, an Address pair and two Data reads at the same address, whose next address is still below
the palette; in every state that meets the invariant. -/
def Obligations.DataWrittenIsReadBackOneReadLater : Prop :=
  ∀ (a : PpuAddr) (hi lo b : Byte) (s : State),
    s.Inv → 0x2000 ≤ a.toNat → a.toNat + (if s.ppu.ctrl.getLsbD 2 then 32 else 1) < 0x3F00 →
    s.ppu.w = false → hi.toNat * 256 + lo.toNat = a.toNat →
    ∃ s1 s2 s3 s4 s5 s6 s7 first,
      busWrite 0x2006#16 hi s = .ok () s1 ∧ busWrite 0x2006#16 lo s1 = .ok () s2 ∧
      busWrite 0x2007#16 b s2 = .ok () s3 ∧
      busWrite 0x2006#16 hi s3 = .ok () s4 ∧ busWrite 0x2006#16 lo s4 = .ok () s5 ∧
      busRead 0x2007#16 s5 = .ok first s6 ∧ busRead 0x2007#16 s6 = .ok b s7 ∧ first = s.ppu.buf

/-! ## Time and interrupts -/

/-- Tick and the frame cadence (R70, R24, R310, R311). Tick n runs 3n PPU cycles, sets `frameDone` exactly when one of
them completed a frame (held until the next step begins, log 8), and changes nothing else; the end of an instruction moves
pc from `opaddr + 1` to `opaddr + length` and ticks. From counters 0 and 0, PPU cycle number 82181 is the first to leave
the vblank bit set, with the NMI requested exactly if Control bit 7 is set; cycle number 89342 clears both and completes
the frame; the Ticks around both moments. -/
def Obligations.FrameCadenceSetsAndClearsVblank : Prop :=
  ∀ s : State,
    (∀ n, tick n s = { s with ppu := (ppuRun (3 * n) s.ppu).1, frameDone := (tick n s).frameDone } ∧
      ((tick n s).frameDone = true ↔
        s.frameDone = true ∨ ∃ k, k < 3 * n ∧ (ppuCycle (ppuRun k s.ppu).1).2 = true)) ∧
    (∀ (opaddr : Word) (length n : Nat), 0 < length → s.pc = opaddr + 1#16 →
      complete (length - 1) n s = tick n { s with pc := opaddr + BitVec.ofNat 16 length }) ∧
    (s.ppu.cycle = 0 → s.ppu.scanline = 0 → s.ppu.status = 0x00#8 → s.ppu.nmiPending = false →
      ppuRun 82180 s.ppu = ({ s.ppu with cycle := 340, scanline := 240 }, false) ∧
      ppuRun 82181 s.ppu =
        ({ s.ppu with cycle := 0, scanline := 241, status := 0x80#8, nmiPending := s.ppu.ctrl.getLsbD 7 }, false) ∧
      ppuRun 89342 s.ppu = (s.ppu, true) ∧
      tick 27393 s = { s with ppu := { s.ppu with cycle := 339, scanline := 240 } } ∧
      tick 27394 s = { s with ppu :=
        { s.ppu with cycle := 1, scanline := 241, status := 0x80#8, nmiPending := s.ppu.ctrl.getLsbD 7 } } ∧
      tick 29780 s = { s with ppu :=
        { s.ppu with cycle := 339, scanline := 261, status := 0x80#8, nmiPending := s.ppu.ctrl.getLsbD 7 } } ∧
      tick 29781 s = { s with ppu := { s.ppu with cycle := 1 }, frameDone := true })

/-- The NMI poll and entry (R350, R320, R321): a pending request is consumed before the fetch, whatever the I flag; the
frame holds pc and the status with Break 0 and Break2 1, I becomes 1, the cost is ticked, and pc comes from the NMI
vector in ROM. Without a request the poll does nothing. -/
def Obligations.PendingNmiIsEnteredBeforeTheFetch : Prop :=
  ∀ s : State,
    (s.ppu.nmiPending = false → pollNmi s = .ok () s) ∧
    (s.ppu.nmiPending = true →
      s.cfg.stackBase = 0x0100#16 → s.cfg.vecNmi = 0xFFFA#16 → s.cfg.prgBase = 0x8000#16 →
      pollNmi s = .ok () (tick s.cfg.nmiCycles
        { s with
          ppu := { s.ppu with nmiPending := false }
          ram := memWrite (memWrite (memWrite s.ram (0x100 + s.s.toNat) (highByte s.pc))
            (0x100 + (s.s - 1#8).toNat) (lowByte s.pc)) (0x100 + (s.s - 2#8).toNat) ((s.p &&& 0xCF#8) ||| 0x20#8)
          s := s.s - 3#8
          p := setFlag .i true s.p
          pc := joinBytes (memRead s.rom.prg (0x7FFB % s.rom.prgSize.bytes))
            (memRead s.rom.prg (0x7FFA % s.rom.prgSize.bytes)) }))

/-- An NMI entry followed by RTI resumes the interrupted program with pc, S, A, X, Y and P as they were (R323), in
every state that meets the invariant (whose live P has Break 0 and Break2 1, R30), with RTI_PC_ADJUST 0. -/
def Obligations.NmiThenRtiResumesTheProgram : Prop :=
  ∀ s t : State,
    s.Inv → s.ppu.nmiPending = true → s.cfg.stackBase = 0x0100#16 → s.cfg.vecNmi = 0xFFFA#16 →
    s.cfg.prgBase = 0x8000#16 → s.cfg.rtiPcAdjust = 0 →
    pollNmi s = .ok () t →
    ∃ u, exec .rti t = .next u ∧ u.pc = s.pc ∧ u.s = s.s ∧ u.p = s.p ∧ u.a = s.a ∧ u.x = s.x ∧ u.y = s.y

/-! ## The step, reset and power-on -/

/-- A step runs the decoded instruction (R120): on a Running core, when after the NMI poll the bytes at pc, read through
the bus, decode to a well-formed instruction of that many bytes, step is exec of it in the state those reads left, with
pc moved past the opcode byte. `frameDone`, the model's output, falls first (log 8). -/
def Obligations.StepRunsTheDecodedInstruction : Prop :=
  ∀ (s t u : State) (i : Instr) (bytes : List Byte),
    s.status = .running → pollNmi { s with frameDone := false } = .ok () t →
    readBytes i.length t.pc t = .ok bytes u → decode bytes = .ok i → i.wf = true →
    step s = exec i { u with pc := t.pc + 1#16 }

/-- A step whose NMI entry, opcode fetch or operand fetch raises ends in that access's state (R305; an NMI entry can
raise only with the stack page or the vectors moved, log 22). In both fetches pc has been advanced past the opcode byte
and not past the operands (R305, D44; R120 writes pc after the opcode read, log 7). -/
def Obligations.FaultingFetchEndsTheStep : Prop :=
  ∀ s : State, s.status = .running →
    (∀ u, pollNmi { s with frameDone := false } = .raised u → step s = .next u) ∧
    ∀ t, pollNmi { s with frameDone := false } = .ok () t →
      (∀ u, busRead t.pc t = .raised u → step s = .next { u with pc := t.pc + 1#16 }) ∧
      ∀ op w u, busRead t.pc t = .ok op w → readBytes (operandCount op) (t.pc + 1#16) w = .raised u →
        step s = .next { u with pc := t.pc + 1#16 }

/-- A core that is not Running does not change under a step, NMI pending or not (R44, R120, R364). -/
def Obligations.TerminalStatesAreLeftByNoStep : Prop :=
  ∀ s : State, s.terminal → step s = .next s

/-- The reset signal (R380): the registers' baseline, Running again from any state, pc from the reset vector in ROM;
memory, the PPU, the cartridge and the parameters unchanged, nothing ticked. -/
def Obligations.ResetSetsTheBaselineOnly : Prop :=
  ∀ s : State,
    s.cfg.vecReset = 0xFFFC#16 → s.cfg.prgBase = 0x8000#16 →
    resetSignal s =
      { s with
        a := 0x00#8
        x := 0x00#8
        y := 0x00#8
        s := 0xFD#8
        p := 0x24#8
        status := .running
        pc := joinBytes (memRead s.rom.prg (0x7FFD % s.rom.prgSize.bytes))
          (memRead s.rom.prg (0x7FFC % s.rom.prgSize.bytes)) }

/-- Power-on (R9, R26, R381): a cartridge outside R9 is refused; an accepted one gives a Running machine whose memories hold
the INIT_* contents and the cartridge's bytes, byte for byte, with the cartridge's PRG_ROM size and mirroring, every PPU
field 0, and pc the word at the reset vector of the cartridge. -/
def Obligations.PowerOnLoadsTheCartridgeOrRefuses : Prop :=
  ∀ (c : Cartridge) (init : InitMemories),
    (c.wf = true ↔ (c.prgRom.length = 16384 ∨ c.prgRom.length = 32768) ∧ c.mapper = 0x00#8 ∧
      c.chrRom.length = 8192 ∧ c.mirroring ≠ .fourScreen) ∧
    (c.wf = false → ∃ r, powerOn .standard c init = .refused r) ∧
    (c.wf = true → ∃ s, powerOn .standard c init = .next s ∧ s.status = .running ∧ s.cfg = .standard ∧
      s.rom.prgSize.bytes = c.prgRom.length ∧
      (c.mirroring = .horizontal → s.rom.mirroring = .horizontal) ∧
      (c.mirroring = .vertical → s.rom.mirroring = .vertical) ∧
      s.pc = joinBytes (c.prgRom.getD (0x7FFD % c.prgRom.length) 0#8) (c.prgRom.getD (0x7FFC % c.prgRom.length) 0#8) ∧
      s.a = 0#8 ∧ s.x = 0#8 ∧ s.y = 0#8 ∧ s.s = 0xFD#8 ∧ s.p = 0x24#8 ∧
      (∀ k, k < c.prgRom.length → memRead s.rom.prg k = c.prgRom.getD k 0#8) ∧
      (∀ k, k < 8192 → memRead s.rom.chr k = c.chrRom.getD k 0#8) ∧
      (∀ k : Fin 2048, memRead s.ram k = init.ram[k]) ∧
      (∀ k : Fin 2048, memRead s.ppu.vram k = init.vram[k]) ∧
      (∀ k : Fin 256, memRead s.ppu.oam k = init.oam[k]) ∧
      (∀ k : Fin 32, memRead s.ppu.pal k = init.pal[k]) ∧
      { s.ppu with vram := [], oam := [], pal := [] } = Ppu.powerOn)

/-- The state after reset (R45): the CPU's baseline, Running, every PPU field 0. (The blank memories and the blank
cartridge behind pc are the model's choice, logs 3 and 4, and are not stated.) -/
def Obligations.ResetStateHasTheStatedValues : Prop :=
  State.reset.a = 0x00#8 ∧ State.reset.x = 0x00#8 ∧ State.reset.y = 0x00#8 ∧ State.reset.s = 0xFD#8 ∧
  State.reset.p = 0x24#8 ∧ State.reset.status = .running ∧
  { State.reset.ppu with vram := [], oam := [], pal := [] } =
    (⟨0#8, 0#8, 0#8, 0#8, 0#8, 0#8, 0#14, false, 0#8, false, 0, 0, [], [], []⟩ : Ppu) ∧
  State.reset = resetSignal State.reset

/-! ## Encoding -/

/-- Decode and encode agree, whatever follows the instruction: for every instruction, with every operand at every value,
decoding its bytes gives it back and leaves exactly the bytes that follow (R90, R91, R93). -/
def Obligations.DecodeInvertsEncode : Prop :=
  ∀ (i : Instr) (rest : List Byte), i.wf = true ∧ decodePrefix (encode i ++ rest) = .ok (i, rest)

/-- The table is total and unambiguous (R90, R93): three bytes always begin with an instruction, the opcode byte alone
decides its length, the encoding has that length, and encoding what was decoded gives the bytes back. -/
def Obligations.EveryByteSequenceDecodesToItsEncoding : Prop :=
  ∀ b0 b1 b2 : Byte, ∃ i rest,
    decodePrefix [b0, b1, b2] = .ok (i, rest) ∧ encode i ++ rest = [b0, b1, b2] ∧ i.opcode = b0 ∧
    (encode i).length = i.length ∧
    ∃ row, opcodeRow b0 = some row ∧ i.length = row.mode.length ∧ i.mnemonic = row.mnemonic ∧ i.mode = row.mode

/-- Words written out from the spec's encodings (R94, R95, R96, R98) decode to the instructions they stand for. -/
def Obligations.SpecWordsDecodeToTheirInstructions : Prop :=
  decode [0xA9#8, 0xC0#8] = .ok (.ldaImm 0xC0#8) ∧
  decode [0x8D#8, 0x06#8, 0x20#8] = .ok (.staAbs 0x2006#16) ∧
  decode [0xB6#8, 0x10#8] = .ok (.ldxZpY 0x10#8) ∧
  decode [0x6C#8, 0x34#8, 0x12#8] = .ok (.jmpInd 0x1234#16) ∧
  decode [0xD0#8, 0xFB#8] = .ok (.bne 0xFB#8) ∧
  decode [0x0A#8] = .ok .aslAcc ∧
  decode [0x28#8] = .ok .plp ∧
  decode [0x13#8, 0x10#8] = .ok (.sloIndY 0x10#8)

/-! ## Invariants and frames -/

/-- The invariant holds after reset (R28, R36, R37). -/
def Obligations.ResetStateMeetsTheInvariant : Prop := State.reset.Inv

/-- Every step keeps the invariant (R30, R37, R333): memories canonical and of their size, live Break 0 and Break2 1,
counters in range, Status bits 6:0 zero; whatever the parameters. -/
def Obligations.EveryStepKeepsTheInvariant : Prop :=
  ∀ s t : State, s.Inv → step s = .next t → t.Inv

/-- No step writes the cartridge or a parameter (R9, R46). That every step answers a next state, never a fault or a
refusal, is the model's reading of R44, R120 and R300, which make every error and every stop a state (log 6). -/
def Obligations.NoStepChangesCartridgeOrParameters : Prop :=
  ∀ s : State, ∃ t, step s = .next t ∧ t.rom = s.rom ∧ t.cfg = s.cfg

/-- The register and flag frame (the tables of R21 and R29, and R22): an instruction leaves A, X, Y, S and each flag alone
unless it is one of the instructions listed as writing that register or flag. -/
def Obligations.OnlyListedInstructionsWriteEachRegisterAndFlag : Prop :=
  ∀ (i : Instr) (s t : State), exec i s = .next t →
    (i.writesA = false → t.a = s.a) ∧ (i.writesX = false → t.x = s.x) ∧
    (i.writesY = false → t.y = s.y) ∧ (i.writesS = false → t.s = s.s) ∧
    ∀ f, i.mnemonic.writesFlag f = false → getFlag f t.p = getFlag f s.p

/-- The memory frame of the forms that store nothing (R66): every cell of every memory reads as before. -/
def Obligations.NonStoringInstructionsLeaveEveryCell : Prop :=
  ∀ (i : Instr) (s t : State) (c : MemCell),
    i.mnemonic.stores = false → (i.mnemonic.modifies = false ∨ i.operand = .accumulator) → i.mnemonic.pushes = 0 →
    exec i s = .next t → peek t c = peek s c

/-- The memory frame of stores and read-modify-writes (R66): every cell but the one the effective address names reads as
before, the cell taken after the operand read where there is one. -/
def Obligations.StoresChangeOnlyTheAddressedCell : Prop :=
  ∀ (i : Instr) (m : MemForm) (s t : State) (pl : Place) (w : State) (c : MemCell),
    i.operand = .memory m → resolve m s = .ok pl w → exec i s = .next t →
    (i.mnemonic.stores = true → storedCell pl.ea w ≠ some c → peek t c = peek s c) ∧
    (i.mnemonic.modifies = true →
      (∀ v u, busRead pl.ea w = .ok v u → storedCell pl.ea u ≠ some c) → peek t c = peek s c)

/-- The memory frame of the pushes (R51, R191, R197, R220, R222) with the stack page in RAM: every cell but the pushed
ones reads as before. -/
def Obligations.PushesChangeOnlyTheStackCells : Prop :=
  ∀ (i : Instr) (s t : State) (c : MemCell),
    0 < i.mnemonic.pushes → s.cfg.stackBase = 0x0100#16 → s.cfg.vecBrk = 0xFFFE#16 → s.cfg.prgBase = 0x8000#16 →
    exec i s = .next t → c ∉ pushedCells i.mnemonic.pushes s.s → peek t c = peek s c

/-- The PPU register frame (R7, R64): Control, Mask, the OAM cursor, the scroll bytes, the PPU address, the latch and the
read buffer change only through an access to the register window; with the stack page and the vectors where R11's
defaults put them, an instruction whose operand address and jump pointer lie outside the window leaves them alone. -/
def Obligations.PpuRegistersChangeOnlyThroughTheirWindow : Prop :=
  ∀ (i : Instr) (s t : State),
    s.cfg.stackBase = 0x0100#16 → s.cfg.vecBrk = 0xFFFE#16 → s.cfg.prgBase = 0x8000#16 →
    (i.mnemonic ≠ .jmp → i.mnemonic ≠ .jsr →
      ∀ m pl w, i.operand = .memory m → resolve m s = .ok pl w → ¬ InPpuWindow pl.ea) →
    (∀ ptr, i.operand = .indirect ptr → ¬ InPpuWindow ptr ∧ ¬ InPpuWindow (indirectHighAddr ptr)) →
    exec i s = .next t →
    t.ppu.ctrl = s.ppu.ctrl ∧ t.ppu.mask = s.ppu.mask ∧ t.ppu.oamAddr = s.ppu.oamAddr ∧
    t.ppu.scrollV = s.ppu.scrollV ∧ t.ppu.scrollH = s.ppu.scrollH ∧ t.ppu.addr = s.ppu.addr ∧
    t.ppu.w = s.ppu.w ∧ t.ppu.buf = s.ppu.buf
end

