-- ==== Sys2Proof/Laws/Bits.lean ====
section
/-! SUPPORT. The laws of byte order: splitting a word and joining its bytes, and the numbers behind the bit operations. -/

namespace Sys2Proof

theorem joinBytes_toNat (hi lo : Byte) : (joinBytes hi lo).toNat = hi.toNat * 256 + lo.toNat := by
  unfold joinBytes
  rw [BitVec.toNat_append, Nat.shiftLeft_eq, Nat.mul_comm, ← Nat.two_pow_add_eq_or_of_lt lo.isLt]

theorem highByte_toNat (w : Word) : (highByte w).toNat = w.toNat / 256 := by
  unfold highByte
  rw [BitVec.extractLsb'_toNat, Nat.shiftRight_eq_div_pow]
  have := w.isLt
  omega

theorem lowByte_toNat (w : Word) : (lowByte w).toNat = w.toNat % 256 := by
  unfold lowByte
  rw [BitVec.extractLsb'_toNat]
  simp

/-- Splitting a word and joining its bytes gives it back. -/
theorem joinBytes_split (w : Word) : joinBytes (highByte w) (lowByte w) = w := by
  apply BitVec.eq_of_toNat_eq
  rw [joinBytes_toNat, highByte_toNat, lowByte_toNat]
  omega

theorem highByte_joinBytes (hi lo : Byte) : highByte (joinBytes hi lo) = hi := by
  apply BitVec.eq_of_toNat_eq
  rw [highByte_toNat, joinBytes_toNat]
  have := lo.isLt
  omega

theorem lowByte_joinBytes (hi lo : Byte) : lowByte (joinBytes hi lo) = lo := by
  apply BitVec.eq_of_toNat_eq
  rw [lowByte_toNat, joinBytes_toNat]
  have := lo.isLt
  omega

theorem zeroExtend16_toNat (b : Byte) : (zeroExtend16 b).toNat = b.toNat := by
  unfold zeroExtend16
  have := b.isLt
  simp [BitVec.toNat_setWidth]
  omega

/-- Two addresses lie in different pages exactly when they differ above their low byte (R16, R107). -/
theorem pageDiffers_iff (v w : Word) : pageDiffers v w = true ↔ v.toNat / 256 ≠ w.toNat / 256 := by
  unfold pageDiffers
  rw [bne_iff_ne, ne_eq, ← BitVec.toNat_inj, highByte_toNat, highByte_toNat]

end Sys2Proof
end

