-- ==== Sys2Proof/Laws/Memory.lean ====
section
/-! SUPPORT. The laws of a byte memory: what a read gives after a write, and that every operation keeps the canonical
form and the size. -/

namespace Sys2Proof.Machine

theorem memRead_nil (k : Nat) : memRead [] k = blankByte := rfl

theorem memoryWfFrom_mono {m : Memory} {lo lo' : Nat} (hle : lo' ≤ lo) (h : memoryWfFrom lo m = true) :
    memoryWfFrom lo' m = true := by
  cases m with
  | nil => rfl
  | cons c rest =>
    simp only [memoryWfFrom, Bool.and_eq_true, decide_eq_true_eq] at h ⊢
    exact ⟨⟨by omega, h.1.2⟩, h.2⟩

/-- A memory canonical from `lo` on lists nothing below `lo`. -/
theorem memRead_below {m : Memory} {lo k : Nat} (h : memoryWfFrom lo m = true) (hk : k < lo) :
    memRead m k = blankByte := by
  induction m generalizing lo with
  | nil => rfl
  | cons c rest ih =>
    simp only [memoryWfFrom, Bool.and_eq_true, decide_eq_true_eq] at h
    have hne : c.1 ≠ k := by omega
    simp only [memRead, if_neg hne]
    exact ih h.2 (by omega)

/-- A write leaves every other cell alone. -/
theorem memRead_memWrite_ne {k j : Nat} (m : Memory) (v : Byte) (h : j ≠ k) :
    memRead (memWrite m k v) j = memRead m j := by
  induction m with
  | nil => simp only [memWrite]; split <;> simp [memRead, Ne.symm h]
  | cons c rest ih =>
    simp only [memWrite]
    split
    · split <;> simp [memRead, Ne.symm h]
    · split
      · have : c.1 ≠ j := by omega
        split <;> simp [memRead, Ne.symm h, this]
      · simp [memRead, ih]

theorem memRead_memWrite_self_from {lo : Nat} {m : Memory} (k : Nat) (v : Byte) (h : memoryWfFrom lo m = true) :
    memRead (memWrite m k v) k = v := by
  induction m generalizing lo with
  | nil => simp only [memWrite]; split <;> simp_all [memRead]
  | cons c rest ih =>
    simp only [memoryWfFrom, Bool.and_eq_true, decide_eq_true_eq] at h
    simp only [memWrite]
    split
    · next hlt =>
      split
      · next hv =>
        have hne : c.1 ≠ k := by omega
        simp only [memRead, if_neg hne, hv]
        exact memRead_below h.2 (by omega)
      · simp [memRead]
    · next hlt =>
      split
      · next heq =>
        split
        · next hv => rw [hv]; exact memRead_below h.2 (by omega)
        · simp [memRead]
      · next hne =>
        have hne' : c.1 ≠ k := fun e => hne e.symm
        simp only [memRead, if_neg hne']
        exact ih h.2

/-- A read after a write to the same cell of a canonical memory gives the byte written. -/
theorem memRead_memWrite_self {m : Memory} (k : Nat) (v : Byte) (h : memoryWf m = true) :
    memRead (memWrite m k v) k = v := memRead_memWrite_self_from k v h

theorem memWrite_wfFrom {lo k : Nat} {m : Memory} (v : Byte) (hlo : lo ≤ k) (h : memoryWfFrom lo m = true) :
    memoryWfFrom lo (memWrite m k v) = true := by
  induction m generalizing lo with
  | nil => simp only [memWrite]; split <;> simp_all [memoryWfFrom]
  | cons c rest ih =>
    simp only [memoryWfFrom, Bool.and_eq_true, decide_eq_true_eq, bne_iff_ne] at h
    simp only [memWrite]
    split
    · split
      · simp [memoryWfFrom, h.1.1, h.1.2, h.2]
      · simp only [memoryWfFrom, Bool.and_eq_true, decide_eq_true_eq, bne_iff_ne]
        exact ⟨⟨hlo, ‹_›⟩, ⟨by omega, h.1.2⟩, h.2⟩
    · split
      · split
        · exact memoryWfFrom_mono (by omega) h.2
        · simp only [memoryWfFrom, Bool.and_eq_true, decide_eq_true_eq, bne_iff_ne]
          refine ⟨⟨hlo, ‹_›⟩, ?_⟩
          next heq _ => rw [heq]; exact h.2
      · simp only [memoryWfFrom, Bool.and_eq_true, decide_eq_true_eq, bne_iff_ne]
        exact ⟨h.1, ih (by omega) h.2⟩

/-- A write keeps the canonical form. -/
theorem memWrite_wf {m : Memory} (k : Nat) (v : Byte) (h : memoryWf m = true) : memoryWf (memWrite m k v) = true :=
  memWrite_wfFrom v (Nat.zero_le k) h

/-- A write inside the memory's size keeps it. -/
theorem memWrite_within {n k : Nat} {m : Memory} (v : Byte) (hk : k < n) (h : memoryWithin n m = true) :
    memoryWithin n (memWrite m k v) = true := by
  induction m with
  | nil => simp only [memWrite]; split <;> simp [memoryWithin, hk]
  | cons c rest ih =>
    simp only [memoryWithin, List.all_cons, Bool.and_eq_true, decide_eq_true_eq] at h ih ⊢
    simp only [memWrite]
    split
    · split
      · simp only [List.all_cons, Bool.and_eq_true, decide_eq_true_eq]; exact h
      · simp only [List.all_cons, Bool.and_eq_true, decide_eq_true_eq]; exact ⟨hk, h⟩
    · split
      · split
        · exact h.2
        · simp only [List.all_cons, Bool.and_eq_true, decide_eq_true_eq]; exact ⟨hk, h.2⟩
      · simp only [List.all_cons, Bool.and_eq_true, decide_eq_true_eq]
        exact ⟨h.1, ih h.2⟩

/-- Writing what a cell of a canonical memory already holds changes nothing. -/
theorem memWrite_memRead_from {lo : Nat} {m : Memory} (k : Nat) (h : memoryWfFrom lo m = true) :
    memWrite m k (memRead m k) = m := by
  induction m generalizing lo with
  | nil => simp [memRead, memWrite]
  | cons c rest ih =>
    simp only [memoryWfFrom, Bool.and_eq_true, decide_eq_true_eq, bne_iff_ne] at h
    by_cases hc : c.1 = k
    · subst hc; simp [memRead, memWrite, h.1.2]
    · have hc' : ¬ k = c.1 := fun e => hc e.symm
      simp only [memRead, if_neg hc, memWrite, if_neg hc']
      split
      · next hlt => rw [memRead_below h.2 (by omega)]; simp
      · rw [ih h.2]

theorem memOfBytes_wfFrom {lo k : Nat} (bs : List Byte) (hlo : lo ≤ k) : memoryWfFrom lo (memOfBytes k bs) = true := by
  induction bs generalizing lo k with
  | nil => rfl
  | cons b rest ih =>
    simp only [memOfBytes]
    split
    · exact ih (by omega)
    · simp only [memoryWfFrom, Bool.and_eq_true, decide_eq_true_eq, bne_iff_ne]
      exact ⟨⟨hlo, ‹_›⟩, ih (Nat.le_refl _)⟩

/-- A loaded memory is canonical. -/
theorem memOfBytes_wf (bs : List Byte) : memoryWf (memOfBytes 0 bs) = true := memOfBytes_wfFrom bs (Nat.le_refl 0)

theorem memOfBytes_within (k : Nat) (bs : List Byte) : memoryWithin (k + bs.length) (memOfBytes k bs) = true := by
  induction bs generalizing k with
  | nil => rfl
  | cons b rest ih =>
    have hlen : k + (b :: rest).length = (k + 1) + rest.length := by simp only [List.length_cons]; omega
    rw [hlen]
    simp only [memOfBytes]
    split
    · exact ih (k + 1)
    · simp only [memoryWithin, List.all_cons, Bool.and_eq_true, decide_eq_true_eq]
      exact ⟨by omega, ih (k + 1)⟩

/-- A loaded memory reads, at each index, the byte it was loaded with. -/
theorem memRead_memOfBytes (k j : Nat) (bs : List Byte) :
    memRead (memOfBytes k bs) (k + j) = bs.getD j blankByte := by
  induction bs generalizing k j with
  | nil => simp [memOfBytes, memRead]
  | cons b rest ih =>
    cases j with
    | zero =>
      simp only [memOfBytes]
      split
      · next hb =>
        rw [Nat.add_zero, memRead_below (memOfBytes_wfFrom rest (Nat.le_refl (k + 1))) (by omega)]
        simp [hb]
      · simp [memRead]
    | succ j =>
      have hidx : k + (j + 1) = (k + 1) + j := by omega
      simp only [memOfBytes]
      split
      · rw [hidx, ih]; simp
      · have hne : k ≠ k + (j + 1) := by omega
        simp only [memRead, if_neg hne]
        rw [hidx, ih]; simp

end Sys2Proof.Machine
end

