-- ==== Sys2Proof/Laws/Bus.lean ====
section
/-! SUPPORT. The laws of access sequences, of the bus decoder, and of one bus read and one bus write: everything each can
do, said once. -/

namespace Sys2Proof.Machine

/-! ## Access sequences -/

@[simp] theorem andThen_ok {α β : Type} (v : α) (s : State) (k : α → State → Access β) :
    (Access.ok v s).andThen k = k v s := rfl

@[simp] theorem andThen_raised {α β : Type} (s : State) (k : α → State → Access β) :
    (Access.raised s).andThen k = .raised s := rfl

@[simp] theorem state_ok {α : Type} (v : α) (s : State) : (Access.ok v s).state = s := rfl

@[simp] theorem state_raised {α : Type} (s : State) : (Access.raised s : Access α).state = s := rfl

/-- A sequence succeeds exactly when its first access does and the rest does after it. -/
theorem andThen_eq_ok {α β : Type} {r : Access α} {k : α → State → Access β} {v : β} {t : State} :
    r.andThen k = .ok v t ↔ ∃ a u, r = .ok a u ∧ k a u = .ok v t := by
  cases r with
  | ok a u => simp
  | raised u => simp

/-- A property of the end state of a sequence. -/
theorem andThen_state {α β : Type} {P : State → Prop} {r : Access α} {k : α → State → Access β} (hr : P r.state)
    (hk : ∀ a u, r = .ok a u → P u → P (k a u).state) : P (r.andThen k).state := by
  cases r with
  | ok a u => exact hk a u rfl hr
  | raised u => exact hr

/-- An access answers ok or raised. -/
theorem access_cases {α : Type} (r : Access α) : (∃ v t, r = .ok v t) ∨ ∃ t, r = .raised t := by
  cases r with
  | ok v t => exact .inl ⟨v, t, rfl⟩
  | raised t => exact .inr ⟨t, rfl⟩

/-! ## The bus decoder -/

theorem ramIndex_eq (addr : Word) : ramIndex addr = addr.toNat % 0x800 := by
  unfold ramIndex
  rw [BitVec.toNat_and]
  exact Nat.and_two_pow_sub_one_eq_mod addr.toNat 11

theorem regionOf_ram (s : State) {addr : Word} (h : addr.toNat < 0x2000) :
    regionOf s addr = .ram (addr.toNat % 0x800) := by
  unfold regionOf
  rw [if_pos h, ramIndex_eq]

theorem regionOf_ppu (s : State) {addr : Word} (h : InPpuWindow addr) : regionOf s addr = .ppu (ppuRegOf addr) := by
  unfold regionOf
  rw [if_neg (by have := h.1; omega), if_pos h.2]

theorem regionOf_unmapped {s : State} {addr : Word} (hp : s.cfg.prgBase = 0x8000#16) (h : 0x4000 ≤ addr.toNat)
    (h' : addr.toNat < 0x8000) : regionOf s addr = .unmapped := by
  unfold regionOf inRomWindow
  rw [if_neg (by omega), if_neg (by omega), hp, if_neg]
  simp only [BitVec.toNat_ofNat, Bool.and_eq_true, decide_eq_true_eq]
  omega

theorem regionOf_rom {s : State} {addr : Word} (hp : s.cfg.prgBase = 0x8000#16) (h : 0x8000 ≤ addr.toNat) :
    regionOf s addr = .rom ((addr.toNat - 0x8000) % s.rom.prgSize.bytes) := by
  have := addr.isLt
  unfold regionOf inRomWindow romIndex
  rw [if_neg (by omega), if_neg (by omega), hp, if_pos]
  · rfl
  · simp only [BitVec.toNat_ofNat, Bool.and_eq_true, decide_eq_true_eq]
    omega

/-- The decoder leads into the PPU window exactly from its addresses. -/
theorem inPpuWindow_of_region {s : State} {addr : Word} {reg : PpuReg} (h : regionOf s addr = .ppu reg) :
    InPpuWindow addr ∧ reg = ppuRegOf addr := by
  unfold regionOf at h
  split at h
  · cases h
  · split at h
    · cases h; exact ⟨⟨by omega, by assumption⟩, rfl⟩
    · split at h <;> cases h

/-- The decoder leads to a RAM cell inside RAM. -/
theorem ram_of_region {s : State} {addr : Word} {k : Nat} (h : regionOf s addr = .ram k) :
    addr.toNat < 0x2000 ∧ k = addr.toNat % 0x800 := by
  unfold regionOf at h
  split at h
  · cases h; exact ⟨by assumption, ramIndex_eq addr⟩
  · split at h
    · cases h
    · split at h <;> cases h

/-- A RAM read, R53. -/
theorem busRead_ram (s : State) {addr : Word} (h : addr.toNat < 0x2000) :
    busRead addr s = .ok (memRead s.ram (addr.toNat % 0x800)) s := by
  unfold busRead
  rw [regionOf_ram s h]

/-- A RAM write, R53. -/
theorem busWrite_ram (s : State) (v : Byte) {addr : Word} (h : addr.toNat < 0x2000) :
    busWrite addr v s = .ok () { s with ram := memWrite s.ram (addr.toNat % 0x800) v } := by
  unfold busWrite
  rw [regionOf_ram s h]

/-- A 16-bit write of RAM stores the low byte, then the high byte one address up (R50, R53). -/
theorem busWrite16_ram (s : State) (w : Word) {addr : Word} (h : addr.toNat < 0x1FFF) :
    busWrite16 addr w s = .ok () { s with
      ram := memWrite (memWrite s.ram (addr.toNat % 0x800) (lowByte w)) ((addr.toNat + 1) % 0x800) (highByte w) } := by
  have hnext : (addr + 1#16).toNat = addr.toNat + 1 := by
    rw [BitVec.toNat_add, BitVec.toNat_ofNat]
    omega
  unfold busWrite16
  rw [busWrite_ram s _ (by omega), andThen_ok, busWrite_ram _ _ (by omega), hnext]

/-- A 16-bit read of RAM joins the byte at the address with the one above it (R50, R53). -/
theorem busRead16_ram (s : State) {addr : Word} (h : addr.toNat < 0x1FFF) :
    busRead16 addr s = .ok (joinBytes (memRead s.ram ((addr.toNat + 1) % 0x800)) (memRead s.ram (addr.toNat % 0x800))) s := by
  have hnext : (addr + 1#16).toNat = addr.toNat + 1 := by
    rw [BitVec.toNat_add, BitVec.toNat_ofNat]
    omega
  unfold busRead16 busReadPair
  rw [busRead_ram s (by omega), andThen_ok, busRead_ram s (by omega), andThen_ok, hnext]

/-- A program ROM read, R56. -/
theorem busRead_rom {s : State} {addr : Word} (hp : s.cfg.prgBase = 0x8000#16) (h : 0x8000 ≤ addr.toNat) :
    busRead addr s = .ok (memRead s.rom.prg ((addr.toNat - 0x8000) % s.rom.prgSize.bytes)) s := by
  unfold busRead
  rw [regionOf_rom hp h]

/-- A read of a PPU register, R54. -/
theorem busRead_ppu (s : State) {addr : Word} (h : InPpuWindow addr) :
    busRead addr s = match ppuRegRead s.rom s.ppu (ppuRegOf addr) with
      | some (v, p) => .ok v { s with ppu := p }
      | none => violation .readWriteOnly addr 0x00#8 s := by
  unfold busRead
  rw [regionOf_ppu s h] <;> rfl

/-- A write of a PPU register, R54. -/
theorem busWrite_ppu (s : State) (v : Byte) {addr : Word} (h : InPpuWindow addr) :
    busWrite addr v s = match ppuRegWrite s.rom v s.ppu (ppuRegOf addr) with
      | some p => .ok () { s with ppu := p }
      | none => violation .writeStatus addr () s := by
  unfold busWrite
  rw [regionOf_ppu s h] <;> rfl

/-! ## Everything one access can do -/

/-- What a register read may change in the PPU: Status bit 7, the latch, the read buffer and the address. -/
structure PpuReadFrame (p q : Ppu) : Prop where
  fields : q = { p with status := q.status, w := q.w, buf := q.buf, addr := q.addr }
  status : q.status = p.status ∨ q.status = p.status &&& 0x7F#8

theorem PpuReadFrame.refl (p : Ppu) : PpuReadFrame p p := ⟨rfl, .inl rfl⟩

theorem ppuRegRead_frame {rom : Rom} {p q : Ppu} {reg : PpuReg} {v : Byte} (h : ppuRegRead rom p reg = some (v, q)) :
    PpuReadFrame p q := by
  cases reg <;> simp only [ppuRegRead, Option.some.injEq, reduceCtorEq] at h
  · cases h; exact ⟨rfl, .inr rfl⟩
  · cases h; exact .refl p
  · unfold dataRead at h
    split at h <;> (cases h; exact ⟨rfl, .inl rfl⟩)

/-- A bus read that succeeds changes only the PPU, and that only through the register window. -/
theorem busRead_ok {addr : Word} {s t : State} {v : Byte} (h : busRead addr s = .ok v t) :
    t = { s with ppu := t.ppu } ∧ PpuReadFrame s.ppu t.ppu ∧ (¬ InPpuWindow addr → t = s) := by
  unfold busRead at h
  split at h
  · cases h; exact ⟨rfl, .refl _, fun _ => rfl⟩
  · next reg hreg =>
    split at h
    · next v' q hq =>
      cases h
      exact ⟨rfl, ppuRegRead_frame hq, fun hn => absurd (inPpuWindow_of_region hreg).1 hn⟩
    · unfold violation at h
      split at h
      · cases h
      · cases h; exact ⟨rfl, .refl _, fun _ => rfl⟩
  · cases h; exact ⟨rfl, .refl _, fun _ => rfl⟩
  · cases h; exact ⟨rfl, .refl _, fun _ => rfl⟩

/-- A bus read that raises sets the run status and changes nothing else. -/
theorem busRead_raised {addr : Word} {s t : State} (h : busRead addr s = .raised t) :
    InPpuWindow addr ∧ t = { s with status := .faulted (.invalidAccess .readWriteOnly addr) } := by
  unfold busRead at h
  split at h
  · cases h
  · next reg hreg =>
    split at h
    · cases h
    · unfold violation at h
      split at h
      · cases h; exact ⟨(inPpuWindow_of_region hreg).1, rfl⟩
      · cases h
  · cases h
  · cases h

/-- A name-table index stays inside VRAM. -/
theorem ntMap_lt (layout : NtLayout) (a : Nat) : ntMap layout a < 2048 := by
  unfold ntMap ntHalf
  cases layout <;> dsimp only <;> omega

theorem ppuMap_vram_lt {layout : NtLayout} {a : PpuAddr} {k : Nat} (h : ppuMap layout a = .vram k) : k < 2048 := by
  unfold ppuMap at h
  split at h
  · exact absurd h (by simp)
  · split at h
    · injection h with h; rw [← h]; exact ntMap_lt _ _
    · split at h
      · injection h with h; rw [← h]; exact ntMap_lt _ _
      · exact absurd h (by simp)

theorem ppuMap_pal_lt {layout : NtLayout} {a : PpuAddr} {k : Nat} (h : ppuMap layout a = .pal k) : k < 32 := by
  unfold ppuMap at h
  split at h
  · exact absurd h (by simp)
  · split at h
    · exact absurd h (by simp)
    · split at h
      · exact absurd h (by simp)
      · injection h with h; omega

/-- A register write leaves the PPU's Status and counters alone. -/
theorem ppuRegWrite_frame {rom : Rom} {p q : Ppu} {reg : PpuReg} {v : Byte} (h : ppuRegWrite rom v p reg = some q) :
    q.status = p.status ∧ q.cycle = p.cycle ∧ q.scanline = p.scanline ∧ q.buf = p.buf := by
  cases reg <;> simp only [ppuRegWrite, Option.some.injEq, reduceCtorEq] at h
  all_goals subst h
  · exact ⟨rfl, rfl, rfl, rfl⟩
  · exact ⟨rfl, rfl, rfl, rfl⟩
  · exact ⟨rfl, rfl, rfl, rfl⟩
  · exact ⟨rfl, rfl, rfl, rfl⟩
  · unfold scrollWrite; split <;> exact ⟨rfl, rfl, rfl, rfl⟩
  · unfold addrWrite; split <;> exact ⟨rfl, rfl, rfl, rfl⟩
  · unfold dataWrite ppuMemWrite; split <;> exact ⟨rfl, rfl, rfl, rfl⟩

/-- A bus write that succeeds changes only RAM and the PPU, the PPU only through the register window, and of all memory
only the cell it names. -/
theorem busWrite_ok {addr : Word} {v : Byte} {s t : State} (h : busWrite addr v s = .ok () t) :
    t = { s with ram := t.ram, ppu := t.ppu } ∧ (¬ InPpuWindow addr → t.ppu = s.ppu) ∧
    ∀ c, storedCell addr s ≠ some c → peek t c = peek s c := by
  unfold busWrite at h
  unfold storedCell
  split at h
  · next k hk =>
    cases h
    refine ⟨rfl, fun _ => rfl, fun c hc => ?_⟩
    rw [hk] at hc
    cases c with
    | ram j =>
      have hj : j ≠ k := fun e => hc (by rw [e])
      exact memRead_memWrite_ne _ _ hj
    | _ => rfl
  · next reg hreg =>
    rw [hreg]
    split at h
    · next q hq =>
      cases h
      refine ⟨rfl, fun hn => absurd (inPpuWindow_of_region hreg).1 hn, fun c hc => ?_⟩
      cases reg <;> simp only [ppuRegWrite, Option.some.injEq, reduceCtorEq] at hq
      all_goals subst hq
      · cases c <;> rfl
      · cases c <;> rfl
      · cases c <;> rfl
      · cases c with
        | oam j =>
          have hj : j ≠ s.ppu.oamAddr.toNat := fun e => hc (by rw [e])
          exact memRead_memWrite_ne _ _ hj
        | _ => rfl
      · unfold scrollWrite; split <;> (cases c <;> rfl)
      · unfold addrWrite; split <;> (cases c <;> rfl)
      · unfold dataWrite ppuMemWrite
        dsimp only at hc
        split at hc
        · next k hk =>
          rw [hk]
          cases c with
          | vram j =>
            have hj : j ≠ k := fun e => hc (by rw [e])
            exact memRead_memWrite_ne _ _ hj
          | _ => rfl
        · next k hk =>
          rw [hk]
          cases c with
          | pal j =>
            have hj : j ≠ k := fun e => hc (by rw [e])
            exact memRead_memWrite_ne _ _ hj
          | _ => rfl
        · next k hk => rw [hk]; cases c <;> rfl
    · unfold violation at h
      split at h
      · cases h
      · cases h; exact ⟨rfl, fun _ => rfl, fun _ _ => rfl⟩
  · cases h; exact ⟨rfl, fun _ => rfl, fun _ _ => rfl⟩
  · unfold violation at h
    split at h
    · cases h
    · cases h; exact ⟨rfl, fun _ => rfl, fun _ _ => rfl⟩

/-- A bus write that raises sets the run status and changes nothing else; the kind is decided by the address. -/
theorem busWrite_raised {addr : Word} {v : Byte} {s t : State} (h : busWrite addr v s = .raised t) :
    t = { s with status := .faulted (.invalidAccess
      (if InPpuWindow addr then .writeStatus else .writeRom) addr) } := by
  unfold busWrite at h
  split at h
  · cases h
  · next reg hreg =>
    split at h
    · cases h
    · unfold violation at h
      split at h
      · cases h; rw [if_pos (inPpuWindow_of_region hreg).1]
      · cases h
  · cases h
  · next k hk =>
    have hn : ¬ InPpuWindow addr := fun hw => by rw [regionOf_ppu s hw] at hk; cases hk
    unfold violation at h
    split at h
    · cases h; rw [if_neg hn]
    · cases h

/-- A bus read, ok or raised, leaves everything but the PPU and the run status. -/
theorem busRead_state (addr : Word) (s : State) : (busRead addr s).state =
    { s with ppu := (busRead addr s).state.ppu, status := (busRead addr s).state.status } := by
  obtain ⟨v, t, hr⟩ | ⟨t, hr⟩ := access_cases (busRead addr s)
  · rw [hr, state_ok, (busRead_ok hr).1]
  · rw [hr, state_raised, (busRead_raised hr).2]

/-- A bus read, ok or raised, leaves every cell of every memory. -/
theorem busRead_peek (addr : Word) (s : State) (c : MemCell) : peek (busRead addr s).state c = peek s c := by
  obtain ⟨v, t, hr⟩ | ⟨t, hr⟩ := access_cases (busRead addr s)
  · obtain ⟨ht, ⟨hf, -⟩, -⟩ := busRead_ok hr
    rw [hr, state_ok, ht, hf]
    cases c <;> rfl
  · rw [hr, state_raised, (busRead_raised hr).2]
    cases c <;> rfl

/-- A bus write, ok or raised, leaves everything but RAM, the PPU and the run status. -/
theorem busWrite_state (addr : Word) (v : Byte) (s : State) : (busWrite addr v s).state =
    { s with
      ram := (busWrite addr v s).state.ram
      ppu := (busWrite addr v s).state.ppu
      status := (busWrite addr v s).state.status } := by
  obtain ⟨u, t, hr⟩ | ⟨t, hr⟩ := access_cases (busWrite addr v s)
  · rw [hr, state_ok, (busWrite_ok hr).1]
  · rw [hr, state_raised, busWrite_raised hr]

/-- A bus write, ok or raised, leaves every cell but the one it names. -/
theorem busWrite_peek {addr : Word} {s : State} {c : MemCell} (v : Byte) (hc : storedCell addr s ≠ some c) :
    peek (busWrite addr v s).state c = peek s c := by
  obtain ⟨u, t, hr⟩ | ⟨t, hr⟩ := access_cases (busWrite addr v s)
  · rw [hr, state_ok]
    exact (busWrite_ok hr).2.2 c hc
  · rw [hr, state_raised, busWrite_raised hr]
    cases c <;> rfl

end Sys2Proof.Machine
end

