-- ==== Sys2Proof/Laws/Flags.lean ====
section
/-! SUPPORT. The laws of the status byte: reading a flag after writing one, and the copies a push and a pull make. -/

namespace Sys2Proof.Machine

/-- Reading a flag of a status byte after writing one. -/
theorem getFlag_setFlag (f g : Flag) (v : Bool) (p : Byte) :
    getFlag f (setFlag g v p) = if f = g then v else getFlag f p := by
  unfold getFlag setFlag
  cases f <;> cases g <;> cases v <;> simp [flagMask, flagBit]

theorem getFlag_setFlag_self (f : Flag) (v : Bool) (p : Byte) : getFlag f (setFlag f v p) = v := by
  rw [getFlag_setFlag]; simp

theorem getFlag_setFlag_ne {f g : Flag} (v : Bool) (p : Byte) (h : f ≠ g) :
    getFlag f (setFlag g v p) = getFlag f p := by
  rw [getFlag_setFlag, if_neg h]

/-- Two status bytes with the same eight flags are the same byte. -/
theorem status_ext {p q : Byte} (h : ∀ f, getFlag f p = getFlag f q) : p = q := by
  apply BitVec.eq_of_getLsbD_eq
  intro i hi
  match i, hi with
  | 0, _ => exact h .c
  | 1, _ => exact h .z
  | 2, _ => exact h .i
  | 3, _ => exact h .d
  | 4, _ => exact h .b
  | 5, _ => exact h .u
  | 6, _ => exact h .v
  | 7, _ => exact h .n

/-- The flags of a pulled status byte: Break 0, Break2 1, the other six from the byte (R30). -/
theorem getFlag_pulledStatus (f : Flag) (b : Byte) :
    getFlag f (pulledStatus b) = if f = .b then false else if f = .u then true else getFlag f b := by
  unfold getFlag pulledStatus
  cases f <;> simp [flagBit]

/-- Pulling the copy that a push made of a live status restores it (R30, R323). -/
theorem pulledStatus_pushedStatus {mask p : Byte} (hm : mask &&& 0xCF#8 = 0x00#8) (hb : getFlag .b p = false)
    (hu : getFlag .u p = true) : pulledStatus (pushedStatus mask p) = p := by
  apply status_ext
  intro f
  have hbit : ∀ j, (mask &&& 0xCF#8).getLsbD j = (0x00#8 : Byte).getLsbD j := fun j => by rw [hm]
  clear hm
  rw [getFlag_pulledStatus]
  split
  · next h => rw [h, hb]
  · split
    · next h => rw [h, hu]
    · have := hbit (flagBit f)
      unfold getFlag pushedStatus
      cases f <;> simp_all [flagBit]

end Sys2Proof.Machine
end

