-- ==== Sys2Proof/Laws/PerInstr.lean ====
section
/-! SUPPORT. The per-instruction family `TableRow`: the row behind an instruction's opcode is the instruction's own. -/

namespace Sys2Proof.Laws.TableRow

open Sys2Proof

/-- The modes that index a 16-bit base, the only ones whose `crossed` can be true (R107, R108, R111). -/
def indexedMode : Mode → Bool
  | .absoluteX | .absoluteY | .indirectY => true
  | _ => false

/-- The opcode of the instruction has a row, with the instruction's mnemonic and mode; the row takes the page-cross penalty
exactly when the instruction reads its operand and indexes a 16-bit base (R114); the encoding has the mode's length. -/
def Statement (i : Instr) : Prop :=
  (∃ row, opcodeRow i.opcode = some row ∧ row.mnemonic = i.mnemonic ∧ row.mode = i.mode ∧
    row.pageCross = (i.mnemonic.reads && indexedMode i.mode)) ∧
  (encode i).length = i.length

theorem ldaIndX (zp : Byte) : Statement (.ldaIndX zp) :=
  ⟨⟨_, (rfl : opcodeRow 0xA1#8 = some _), rfl, rfl, rfl⟩, rfl⟩

theorem ldaZp (zp : Byte) : Statement (.ldaZp zp) :=
  ⟨⟨_, (rfl : opcodeRow 0xA5#8 = some _), rfl, rfl, rfl⟩, rfl⟩

theorem ldaImm (imm : Byte) : Statement (.ldaImm imm) :=
  ⟨⟨_, (rfl : opcodeRow 0xA9#8 = some _), rfl, rfl, rfl⟩, rfl⟩

theorem ldaAbs (addr : Word) : Statement (.ldaAbs addr) :=
  ⟨⟨_, (rfl : opcodeRow 0xAD#8 = some _), rfl, rfl, rfl⟩, rfl⟩

theorem ldaIndY (zp : Byte) : Statement (.ldaIndY zp) :=
  ⟨⟨_, (rfl : opcodeRow 0xB1#8 = some _), rfl, rfl, rfl⟩, rfl⟩

theorem ldaZpX (zp : Byte) : Statement (.ldaZpX zp) :=
  ⟨⟨_, (rfl : opcodeRow 0xB5#8 = some _), rfl, rfl, rfl⟩, rfl⟩

theorem ldaAbsY (addr : Word) : Statement (.ldaAbsY addr) :=
  ⟨⟨_, (rfl : opcodeRow 0xB9#8 = some _), rfl, rfl, rfl⟩, rfl⟩

theorem ldaAbsX (addr : Word) : Statement (.ldaAbsX addr) :=
  ⟨⟨_, (rfl : opcodeRow 0xBD#8 = some _), rfl, rfl, rfl⟩, rfl⟩

theorem ldxImm (imm : Byte) : Statement (.ldxImm imm) :=
  ⟨⟨_, (rfl : opcodeRow 0xA2#8 = some _), rfl, rfl, rfl⟩, rfl⟩

theorem ldxZp (zp : Byte) : Statement (.ldxZp zp) :=
  ⟨⟨_, (rfl : opcodeRow 0xA6#8 = some _), rfl, rfl, rfl⟩, rfl⟩

theorem ldxAbs (addr : Word) : Statement (.ldxAbs addr) :=
  ⟨⟨_, (rfl : opcodeRow 0xAE#8 = some _), rfl, rfl, rfl⟩, rfl⟩

theorem ldxZpY (zp : Byte) : Statement (.ldxZpY zp) :=
  ⟨⟨_, (rfl : opcodeRow 0xB6#8 = some _), rfl, rfl, rfl⟩, rfl⟩

theorem ldxAbsY (addr : Word) : Statement (.ldxAbsY addr) :=
  ⟨⟨_, (rfl : opcodeRow 0xBE#8 = some _), rfl, rfl, rfl⟩, rfl⟩

theorem ldyImm (imm : Byte) : Statement (.ldyImm imm) :=
  ⟨⟨_, (rfl : opcodeRow 0xA0#8 = some _), rfl, rfl, rfl⟩, rfl⟩

theorem ldyZp (zp : Byte) : Statement (.ldyZp zp) :=
  ⟨⟨_, (rfl : opcodeRow 0xA4#8 = some _), rfl, rfl, rfl⟩, rfl⟩

theorem ldyAbs (addr : Word) : Statement (.ldyAbs addr) :=
  ⟨⟨_, (rfl : opcodeRow 0xAC#8 = some _), rfl, rfl, rfl⟩, rfl⟩

theorem ldyZpX (zp : Byte) : Statement (.ldyZpX zp) :=
  ⟨⟨_, (rfl : opcodeRow 0xB4#8 = some _), rfl, rfl, rfl⟩, rfl⟩

theorem ldyAbsX (addr : Word) : Statement (.ldyAbsX addr) :=
  ⟨⟨_, (rfl : opcodeRow 0xBC#8 = some _), rfl, rfl, rfl⟩, rfl⟩

theorem staIndX (zp : Byte) : Statement (.staIndX zp) :=
  ⟨⟨_, (rfl : opcodeRow 0x81#8 = some _), rfl, rfl, rfl⟩, rfl⟩

theorem staZp (zp : Byte) : Statement (.staZp zp) :=
  ⟨⟨_, (rfl : opcodeRow 0x85#8 = some _), rfl, rfl, rfl⟩, rfl⟩

theorem staAbs (addr : Word) : Statement (.staAbs addr) :=
  ⟨⟨_, (rfl : opcodeRow 0x8D#8 = some _), rfl, rfl, rfl⟩, rfl⟩

theorem staIndY (zp : Byte) : Statement (.staIndY zp) :=
  ⟨⟨_, (rfl : opcodeRow 0x91#8 = some _), rfl, rfl, rfl⟩, rfl⟩

theorem staZpX (zp : Byte) : Statement (.staZpX zp) :=
  ⟨⟨_, (rfl : opcodeRow 0x95#8 = some _), rfl, rfl, rfl⟩, rfl⟩

theorem staAbsY (addr : Word) : Statement (.staAbsY addr) :=
  ⟨⟨_, (rfl : opcodeRow 0x99#8 = some _), rfl, rfl, rfl⟩, rfl⟩

theorem staAbsX (addr : Word) : Statement (.staAbsX addr) :=
  ⟨⟨_, (rfl : opcodeRow 0x9D#8 = some _), rfl, rfl, rfl⟩, rfl⟩

theorem stxZp (zp : Byte) : Statement (.stxZp zp) :=
  ⟨⟨_, (rfl : opcodeRow 0x86#8 = some _), rfl, rfl, rfl⟩, rfl⟩

theorem stxAbs (addr : Word) : Statement (.stxAbs addr) :=
  ⟨⟨_, (rfl : opcodeRow 0x8E#8 = some _), rfl, rfl, rfl⟩, rfl⟩

theorem stxZpY (zp : Byte) : Statement (.stxZpY zp) :=
  ⟨⟨_, (rfl : opcodeRow 0x96#8 = some _), rfl, rfl, rfl⟩, rfl⟩

theorem styZp (zp : Byte) : Statement (.styZp zp) :=
  ⟨⟨_, (rfl : opcodeRow 0x84#8 = some _), rfl, rfl, rfl⟩, rfl⟩

theorem styAbs (addr : Word) : Statement (.styAbs addr) :=
  ⟨⟨_, (rfl : opcodeRow 0x8C#8 = some _), rfl, rfl, rfl⟩, rfl⟩

theorem styZpX (zp : Byte) : Statement (.styZpX zp) :=
  ⟨⟨_, (rfl : opcodeRow 0x94#8 = some _), rfl, rfl, rfl⟩, rfl⟩

theorem tax : Statement (.tax) :=
  ⟨⟨_, (rfl : opcodeRow 0xAA#8 = some _), rfl, rfl, rfl⟩, rfl⟩

theorem tay : Statement (.tay) :=
  ⟨⟨_, (rfl : opcodeRow 0xA8#8 = some _), rfl, rfl, rfl⟩, rfl⟩

theorem txa : Statement (.txa) :=
  ⟨⟨_, (rfl : opcodeRow 0x8A#8 = some _), rfl, rfl, rfl⟩, rfl⟩

theorem tya : Statement (.tya) :=
  ⟨⟨_, (rfl : opcodeRow 0x98#8 = some _), rfl, rfl, rfl⟩, rfl⟩

theorem tsx : Statement (.tsx) :=
  ⟨⟨_, (rfl : opcodeRow 0xBA#8 = some _), rfl, rfl, rfl⟩, rfl⟩

theorem txs : Statement (.txs) :=
  ⟨⟨_, (rfl : opcodeRow 0x9A#8 = some _), rfl, rfl, rfl⟩, rfl⟩

theorem adcIndX (zp : Byte) : Statement (.adcIndX zp) :=
  ⟨⟨_, (rfl : opcodeRow 0x61#8 = some _), rfl, rfl, rfl⟩, rfl⟩

theorem adcZp (zp : Byte) : Statement (.adcZp zp) :=
  ⟨⟨_, (rfl : opcodeRow 0x65#8 = some _), rfl, rfl, rfl⟩, rfl⟩

theorem adcImm (imm : Byte) : Statement (.adcImm imm) :=
  ⟨⟨_, (rfl : opcodeRow 0x69#8 = some _), rfl, rfl, rfl⟩, rfl⟩

theorem adcAbs (addr : Word) : Statement (.adcAbs addr) :=
  ⟨⟨_, (rfl : opcodeRow 0x6D#8 = some _), rfl, rfl, rfl⟩, rfl⟩

theorem adcIndY (zp : Byte) : Statement (.adcIndY zp) :=
  ⟨⟨_, (rfl : opcodeRow 0x71#8 = some _), rfl, rfl, rfl⟩, rfl⟩

theorem adcZpX (zp : Byte) : Statement (.adcZpX zp) :=
  ⟨⟨_, (rfl : opcodeRow 0x75#8 = some _), rfl, rfl, rfl⟩, rfl⟩

theorem adcAbsY (addr : Word) : Statement (.adcAbsY addr) :=
  ⟨⟨_, (rfl : opcodeRow 0x79#8 = some _), rfl, rfl, rfl⟩, rfl⟩

theorem adcAbsX (addr : Word) : Statement (.adcAbsX addr) :=
  ⟨⟨_, (rfl : opcodeRow 0x7D#8 = some _), rfl, rfl, rfl⟩, rfl⟩

theorem sbcIndX (zp : Byte) : Statement (.sbcIndX zp) :=
  ⟨⟨_, (rfl : opcodeRow 0xE1#8 = some _), rfl, rfl, rfl⟩, rfl⟩

theorem sbcZp (zp : Byte) : Statement (.sbcZp zp) :=
  ⟨⟨_, (rfl : opcodeRow 0xE5#8 = some _), rfl, rfl, rfl⟩, rfl⟩

theorem sbcImm (imm : Byte) : Statement (.sbcImm imm) :=
  ⟨⟨_, (rfl : opcodeRow 0xE9#8 = some _), rfl, rfl, rfl⟩, rfl⟩

theorem sbcImmEB (imm : Byte) : Statement (.sbcImmEB imm) :=
  ⟨⟨_, (rfl : opcodeRow 0xEB#8 = some _), rfl, rfl, rfl⟩, rfl⟩

theorem sbcAbs (addr : Word) : Statement (.sbcAbs addr) :=
  ⟨⟨_, (rfl : opcodeRow 0xED#8 = some _), rfl, rfl, rfl⟩, rfl⟩

theorem sbcIndY (zp : Byte) : Statement (.sbcIndY zp) :=
  ⟨⟨_, (rfl : opcodeRow 0xF1#8 = some _), rfl, rfl, rfl⟩, rfl⟩

theorem sbcZpX (zp : Byte) : Statement (.sbcZpX zp) :=
  ⟨⟨_, (rfl : opcodeRow 0xF5#8 = some _), rfl, rfl, rfl⟩, rfl⟩

theorem sbcAbsY (addr : Word) : Statement (.sbcAbsY addr) :=
  ⟨⟨_, (rfl : opcodeRow 0xF9#8 = some _), rfl, rfl, rfl⟩, rfl⟩

theorem sbcAbsX (addr : Word) : Statement (.sbcAbsX addr) :=
  ⟨⟨_, (rfl : opcodeRow 0xFD#8 = some _), rfl, rfl, rfl⟩, rfl⟩

theorem cmpIndX (zp : Byte) : Statement (.cmpIndX zp) :=
  ⟨⟨_, (rfl : opcodeRow 0xC1#8 = some _), rfl, rfl, rfl⟩, rfl⟩

theorem cmpZp (zp : Byte) : Statement (.cmpZp zp) :=
  ⟨⟨_, (rfl : opcodeRow 0xC5#8 = some _), rfl, rfl, rfl⟩, rfl⟩

theorem cmpImm (imm : Byte) : Statement (.cmpImm imm) :=
  ⟨⟨_, (rfl : opcodeRow 0xC9#8 = some _), rfl, rfl, rfl⟩, rfl⟩

theorem cmpAbs (addr : Word) : Statement (.cmpAbs addr) :=
  ⟨⟨_, (rfl : opcodeRow 0xCD#8 = some _), rfl, rfl, rfl⟩, rfl⟩

theorem cmpIndY (zp : Byte) : Statement (.cmpIndY zp) :=
  ⟨⟨_, (rfl : opcodeRow 0xD1#8 = some _), rfl, rfl, rfl⟩, rfl⟩

theorem cmpZpX (zp : Byte) : Statement (.cmpZpX zp) :=
  ⟨⟨_, (rfl : opcodeRow 0xD5#8 = some _), rfl, rfl, rfl⟩, rfl⟩

theorem cmpAbsY (addr : Word) : Statement (.cmpAbsY addr) :=
  ⟨⟨_, (rfl : opcodeRow 0xD9#8 = some _), rfl, rfl, rfl⟩, rfl⟩

theorem cmpAbsX (addr : Word) : Statement (.cmpAbsX addr) :=
  ⟨⟨_, (rfl : opcodeRow 0xDD#8 = some _), rfl, rfl, rfl⟩, rfl⟩

theorem cpxImm (imm : Byte) : Statement (.cpxImm imm) :=
  ⟨⟨_, (rfl : opcodeRow 0xE0#8 = some _), rfl, rfl, rfl⟩, rfl⟩

theorem cpxZp (zp : Byte) : Statement (.cpxZp zp) :=
  ⟨⟨_, (rfl : opcodeRow 0xE4#8 = some _), rfl, rfl, rfl⟩, rfl⟩

theorem cpxAbs (addr : Word) : Statement (.cpxAbs addr) :=
  ⟨⟨_, (rfl : opcodeRow 0xEC#8 = some _), rfl, rfl, rfl⟩, rfl⟩

theorem cpyImm (imm : Byte) : Statement (.cpyImm imm) :=
  ⟨⟨_, (rfl : opcodeRow 0xC0#8 = some _), rfl, rfl, rfl⟩, rfl⟩

theorem cpyZp (zp : Byte) : Statement (.cpyZp zp) :=
  ⟨⟨_, (rfl : opcodeRow 0xC4#8 = some _), rfl, rfl, rfl⟩, rfl⟩

theorem cpyAbs (addr : Word) : Statement (.cpyAbs addr) :=
  ⟨⟨_, (rfl : opcodeRow 0xCC#8 = some _), rfl, rfl, rfl⟩, rfl⟩

theorem andIndX (zp : Byte) : Statement (.andIndX zp) :=
  ⟨⟨_, (rfl : opcodeRow 0x21#8 = some _), rfl, rfl, rfl⟩, rfl⟩

theorem andZp (zp : Byte) : Statement (.andZp zp) :=
  ⟨⟨_, (rfl : opcodeRow 0x25#8 = some _), rfl, rfl, rfl⟩, rfl⟩

theorem andImm (imm : Byte) : Statement (.andImm imm) :=
  ⟨⟨_, (rfl : opcodeRow 0x29#8 = some _), rfl, rfl, rfl⟩, rfl⟩

theorem andAbs (addr : Word) : Statement (.andAbs addr) :=
  ⟨⟨_, (rfl : opcodeRow 0x2D#8 = some _), rfl, rfl, rfl⟩, rfl⟩

theorem andIndY (zp : Byte) : Statement (.andIndY zp) :=
  ⟨⟨_, (rfl : opcodeRow 0x31#8 = some _), rfl, rfl, rfl⟩, rfl⟩

theorem andZpX (zp : Byte) : Statement (.andZpX zp) :=
  ⟨⟨_, (rfl : opcodeRow 0x35#8 = some _), rfl, rfl, rfl⟩, rfl⟩

theorem andAbsY (addr : Word) : Statement (.andAbsY addr) :=
  ⟨⟨_, (rfl : opcodeRow 0x39#8 = some _), rfl, rfl, rfl⟩, rfl⟩

theorem andAbsX (addr : Word) : Statement (.andAbsX addr) :=
  ⟨⟨_, (rfl : opcodeRow 0x3D#8 = some _), rfl, rfl, rfl⟩, rfl⟩

theorem oraIndX (zp : Byte) : Statement (.oraIndX zp) :=
  ⟨⟨_, (rfl : opcodeRow 0x01#8 = some _), rfl, rfl, rfl⟩, rfl⟩

theorem oraZp (zp : Byte) : Statement (.oraZp zp) :=
  ⟨⟨_, (rfl : opcodeRow 0x05#8 = some _), rfl, rfl, rfl⟩, rfl⟩

theorem oraImm (imm : Byte) : Statement (.oraImm imm) :=
  ⟨⟨_, (rfl : opcodeRow 0x09#8 = some _), rfl, rfl, rfl⟩, rfl⟩

theorem oraAbs (addr : Word) : Statement (.oraAbs addr) :=
  ⟨⟨_, (rfl : opcodeRow 0x0D#8 = some _), rfl, rfl, rfl⟩, rfl⟩

theorem oraIndY (zp : Byte) : Statement (.oraIndY zp) :=
  ⟨⟨_, (rfl : opcodeRow 0x11#8 = some _), rfl, rfl, rfl⟩, rfl⟩

theorem oraZpX (zp : Byte) : Statement (.oraZpX zp) :=
  ⟨⟨_, (rfl : opcodeRow 0x15#8 = some _), rfl, rfl, rfl⟩, rfl⟩

theorem oraAbsY (addr : Word) : Statement (.oraAbsY addr) :=
  ⟨⟨_, (rfl : opcodeRow 0x19#8 = some _), rfl, rfl, rfl⟩, rfl⟩

theorem oraAbsX (addr : Word) : Statement (.oraAbsX addr) :=
  ⟨⟨_, (rfl : opcodeRow 0x1D#8 = some _), rfl, rfl, rfl⟩, rfl⟩

theorem eorIndX (zp : Byte) : Statement (.eorIndX zp) :=
  ⟨⟨_, (rfl : opcodeRow 0x41#8 = some _), rfl, rfl, rfl⟩, rfl⟩

theorem eorZp (zp : Byte) : Statement (.eorZp zp) :=
  ⟨⟨_, (rfl : opcodeRow 0x45#8 = some _), rfl, rfl, rfl⟩, rfl⟩

theorem eorImm (imm : Byte) : Statement (.eorImm imm) :=
  ⟨⟨_, (rfl : opcodeRow 0x49#8 = some _), rfl, rfl, rfl⟩, rfl⟩

theorem eorAbs (addr : Word) : Statement (.eorAbs addr) :=
  ⟨⟨_, (rfl : opcodeRow 0x4D#8 = some _), rfl, rfl, rfl⟩, rfl⟩

theorem eorIndY (zp : Byte) : Statement (.eorIndY zp) :=
  ⟨⟨_, (rfl : opcodeRow 0x51#8 = some _), rfl, rfl, rfl⟩, rfl⟩

theorem eorZpX (zp : Byte) : Statement (.eorZpX zp) :=
  ⟨⟨_, (rfl : opcodeRow 0x55#8 = some _), rfl, rfl, rfl⟩, rfl⟩

theorem eorAbsY (addr : Word) : Statement (.eorAbsY addr) :=
  ⟨⟨_, (rfl : opcodeRow 0x59#8 = some _), rfl, rfl, rfl⟩, rfl⟩

theorem eorAbsX (addr : Word) : Statement (.eorAbsX addr) :=
  ⟨⟨_, (rfl : opcodeRow 0x5D#8 = some _), rfl, rfl, rfl⟩, rfl⟩

theorem bitZp (zp : Byte) : Statement (.bitZp zp) :=
  ⟨⟨_, (rfl : opcodeRow 0x24#8 = some _), rfl, rfl, rfl⟩, rfl⟩

theorem bitAbs (addr : Word) : Statement (.bitAbs addr) :=
  ⟨⟨_, (rfl : opcodeRow 0x2C#8 = some _), rfl, rfl, rfl⟩, rfl⟩

theorem incZp (zp : Byte) : Statement (.incZp zp) :=
  ⟨⟨_, (rfl : opcodeRow 0xE6#8 = some _), rfl, rfl, rfl⟩, rfl⟩

theorem incAbs (addr : Word) : Statement (.incAbs addr) :=
  ⟨⟨_, (rfl : opcodeRow 0xEE#8 = some _), rfl, rfl, rfl⟩, rfl⟩

theorem incZpX (zp : Byte) : Statement (.incZpX zp) :=
  ⟨⟨_, (rfl : opcodeRow 0xF6#8 = some _), rfl, rfl, rfl⟩, rfl⟩

theorem incAbsX (addr : Word) : Statement (.incAbsX addr) :=
  ⟨⟨_, (rfl : opcodeRow 0xFE#8 = some _), rfl, rfl, rfl⟩, rfl⟩

theorem decZp (zp : Byte) : Statement (.decZp zp) :=
  ⟨⟨_, (rfl : opcodeRow 0xC6#8 = some _), rfl, rfl, rfl⟩, rfl⟩

theorem decAbs (addr : Word) : Statement (.decAbs addr) :=
  ⟨⟨_, (rfl : opcodeRow 0xCE#8 = some _), rfl, rfl, rfl⟩, rfl⟩

theorem decZpX (zp : Byte) : Statement (.decZpX zp) :=
  ⟨⟨_, (rfl : opcodeRow 0xD6#8 = some _), rfl, rfl, rfl⟩, rfl⟩

theorem decAbsX (addr : Word) : Statement (.decAbsX addr) :=
  ⟨⟨_, (rfl : opcodeRow 0xDE#8 = some _), rfl, rfl, rfl⟩, rfl⟩

theorem inx : Statement (.inx) :=
  ⟨⟨_, (rfl : opcodeRow 0xE8#8 = some _), rfl, rfl, rfl⟩, rfl⟩

theorem iny : Statement (.iny) :=
  ⟨⟨_, (rfl : opcodeRow 0xC8#8 = some _), rfl, rfl, rfl⟩, rfl⟩

theorem dex : Statement (.dex) :=
  ⟨⟨_, (rfl : opcodeRow 0xCA#8 = some _), rfl, rfl, rfl⟩, rfl⟩

theorem dey : Statement (.dey) :=
  ⟨⟨_, (rfl : opcodeRow 0x88#8 = some _), rfl, rfl, rfl⟩, rfl⟩

theorem aslZp (zp : Byte) : Statement (.aslZp zp) :=
  ⟨⟨_, (rfl : opcodeRow 0x06#8 = some _), rfl, rfl, rfl⟩, rfl⟩

theorem aslAcc : Statement (.aslAcc) :=
  ⟨⟨_, (rfl : opcodeRow 0x0A#8 = some _), rfl, rfl, rfl⟩, rfl⟩

theorem aslAbs (addr : Word) : Statement (.aslAbs addr) :=
  ⟨⟨_, (rfl : opcodeRow 0x0E#8 = some _), rfl, rfl, rfl⟩, rfl⟩

theorem aslZpX (zp : Byte) : Statement (.aslZpX zp) :=
  ⟨⟨_, (rfl : opcodeRow 0x16#8 = some _), rfl, rfl, rfl⟩, rfl⟩

theorem aslAbsX (addr : Word) : Statement (.aslAbsX addr) :=
  ⟨⟨_, (rfl : opcodeRow 0x1E#8 = some _), rfl, rfl, rfl⟩, rfl⟩

theorem lsrZp (zp : Byte) : Statement (.lsrZp zp) :=
  ⟨⟨_, (rfl : opcodeRow 0x46#8 = some _), rfl, rfl, rfl⟩, rfl⟩

theorem lsrAcc : Statement (.lsrAcc) :=
  ⟨⟨_, (rfl : opcodeRow 0x4A#8 = some _), rfl, rfl, rfl⟩, rfl⟩

theorem lsrAbs (addr : Word) : Statement (.lsrAbs addr) :=
  ⟨⟨_, (rfl : opcodeRow 0x4E#8 = some _), rfl, rfl, rfl⟩, rfl⟩

theorem lsrZpX (zp : Byte) : Statement (.lsrZpX zp) :=
  ⟨⟨_, (rfl : opcodeRow 0x56#8 = some _), rfl, rfl, rfl⟩, rfl⟩

theorem lsrAbsX (addr : Word) : Statement (.lsrAbsX addr) :=
  ⟨⟨_, (rfl : opcodeRow 0x5E#8 = some _), rfl, rfl, rfl⟩, rfl⟩

theorem rolZp (zp : Byte) : Statement (.rolZp zp) :=
  ⟨⟨_, (rfl : opcodeRow 0x26#8 = some _), rfl, rfl, rfl⟩, rfl⟩

theorem rolAcc : Statement (.rolAcc) :=
  ⟨⟨_, (rfl : opcodeRow 0x2A#8 = some _), rfl, rfl, rfl⟩, rfl⟩

theorem rolAbs (addr : Word) : Statement (.rolAbs addr) :=
  ⟨⟨_, (rfl : opcodeRow 0x2E#8 = some _), rfl, rfl, rfl⟩, rfl⟩

theorem rolZpX (zp : Byte) : Statement (.rolZpX zp) :=
  ⟨⟨_, (rfl : opcodeRow 0x36#8 = some _), rfl, rfl, rfl⟩, rfl⟩

theorem rolAbsX (addr : Word) : Statement (.rolAbsX addr) :=
  ⟨⟨_, (rfl : opcodeRow 0x3E#8 = some _), rfl, rfl, rfl⟩, rfl⟩

theorem rorZp (zp : Byte) : Statement (.rorZp zp) :=
  ⟨⟨_, (rfl : opcodeRow 0x66#8 = some _), rfl, rfl, rfl⟩, rfl⟩

theorem rorAcc : Statement (.rorAcc) :=
  ⟨⟨_, (rfl : opcodeRow 0x6A#8 = some _), rfl, rfl, rfl⟩, rfl⟩

theorem rorAbs (addr : Word) : Statement (.rorAbs addr) :=
  ⟨⟨_, (rfl : opcodeRow 0x6E#8 = some _), rfl, rfl, rfl⟩, rfl⟩

theorem rorZpX (zp : Byte) : Statement (.rorZpX zp) :=
  ⟨⟨_, (rfl : opcodeRow 0x76#8 = some _), rfl, rfl, rfl⟩, rfl⟩

theorem rorAbsX (addr : Word) : Statement (.rorAbsX addr) :=
  ⟨⟨_, (rfl : opcodeRow 0x7E#8 = some _), rfl, rfl, rfl⟩, rfl⟩

theorem jmpAbs (addr : Word) : Statement (.jmpAbs addr) :=
  ⟨⟨_, (rfl : opcodeRow 0x4C#8 = some _), rfl, rfl, rfl⟩, rfl⟩

theorem jmpInd (ptr : Word) : Statement (.jmpInd ptr) :=
  ⟨⟨_, (rfl : opcodeRow 0x6C#8 = some _), rfl, rfl, rfl⟩, rfl⟩

theorem jsr (addr : Word) : Statement (.jsr addr) :=
  ⟨⟨_, (rfl : opcodeRow 0x20#8 = some _), rfl, rfl, rfl⟩, rfl⟩

theorem rts : Statement (.rts) :=
  ⟨⟨_, (rfl : opcodeRow 0x60#8 = some _), rfl, rfl, rfl⟩, rfl⟩

theorem bcc (rel : Byte) : Statement (.bcc rel) :=
  ⟨⟨_, (rfl : opcodeRow 0x90#8 = some _), rfl, rfl, rfl⟩, rfl⟩

theorem bcs (rel : Byte) : Statement (.bcs rel) :=
  ⟨⟨_, (rfl : opcodeRow 0xB0#8 = some _), rfl, rfl, rfl⟩, rfl⟩

theorem beq (rel : Byte) : Statement (.beq rel) :=
  ⟨⟨_, (rfl : opcodeRow 0xF0#8 = some _), rfl, rfl, rfl⟩, rfl⟩

theorem bne (rel : Byte) : Statement (.bne rel) :=
  ⟨⟨_, (rfl : opcodeRow 0xD0#8 = some _), rfl, rfl, rfl⟩, rfl⟩

theorem bmi (rel : Byte) : Statement (.bmi rel) :=
  ⟨⟨_, (rfl : opcodeRow 0x30#8 = some _), rfl, rfl, rfl⟩, rfl⟩

theorem bpl (rel : Byte) : Statement (.bpl rel) :=
  ⟨⟨_, (rfl : opcodeRow 0x10#8 = some _), rfl, rfl, rfl⟩, rfl⟩

theorem bvc (rel : Byte) : Statement (.bvc rel) :=
  ⟨⟨_, (rfl : opcodeRow 0x50#8 = some _), rfl, rfl, rfl⟩, rfl⟩

theorem bvs (rel : Byte) : Statement (.bvs rel) :=
  ⟨⟨_, (rfl : opcodeRow 0x70#8 = some _), rfl, rfl, rfl⟩, rfl⟩

theorem nopZp04 (zp : Byte) : Statement (.nopZp04 zp) :=
  ⟨⟨_, (rfl : opcodeRow 0x04#8 = some _), rfl, rfl, rfl⟩, rfl⟩

theorem nopAbs0C (addr : Word) : Statement (.nopAbs0C addr) :=
  ⟨⟨_, (rfl : opcodeRow 0x0C#8 = some _), rfl, rfl, rfl⟩, rfl⟩

theorem nopZpX14 (zp : Byte) : Statement (.nopZpX14 zp) :=
  ⟨⟨_, (rfl : opcodeRow 0x14#8 = some _), rfl, rfl, rfl⟩, rfl⟩

theorem nopImp1A : Statement (.nopImp1A) :=
  ⟨⟨_, (rfl : opcodeRow 0x1A#8 = some _), rfl, rfl, rfl⟩, rfl⟩

theorem nopAbsX1C (addr : Word) : Statement (.nopAbsX1C addr) :=
  ⟨⟨_, (rfl : opcodeRow 0x1C#8 = some _), rfl, rfl, rfl⟩, rfl⟩

theorem nopZpX34 (zp : Byte) : Statement (.nopZpX34 zp) :=
  ⟨⟨_, (rfl : opcodeRow 0x34#8 = some _), rfl, rfl, rfl⟩, rfl⟩

theorem nopImp3A : Statement (.nopImp3A) :=
  ⟨⟨_, (rfl : opcodeRow 0x3A#8 = some _), rfl, rfl, rfl⟩, rfl⟩

theorem nopAbsX3C (addr : Word) : Statement (.nopAbsX3C addr) :=
  ⟨⟨_, (rfl : opcodeRow 0x3C#8 = some _), rfl, rfl, rfl⟩, rfl⟩

theorem nopZp44 (zp : Byte) : Statement (.nopZp44 zp) :=
  ⟨⟨_, (rfl : opcodeRow 0x44#8 = some _), rfl, rfl, rfl⟩, rfl⟩

theorem nopZpX54 (zp : Byte) : Statement (.nopZpX54 zp) :=
  ⟨⟨_, (rfl : opcodeRow 0x54#8 = some _), rfl, rfl, rfl⟩, rfl⟩

theorem nopImp5A : Statement (.nopImp5A) :=
  ⟨⟨_, (rfl : opcodeRow 0x5A#8 = some _), rfl, rfl, rfl⟩, rfl⟩

theorem nopAbsX5C (addr : Word) : Statement (.nopAbsX5C addr) :=
  ⟨⟨_, (rfl : opcodeRow 0x5C#8 = some _), rfl, rfl, rfl⟩, rfl⟩

theorem nopZp64 (zp : Byte) : Statement (.nopZp64 zp) :=
  ⟨⟨_, (rfl : opcodeRow 0x64#8 = some _), rfl, rfl, rfl⟩, rfl⟩

theorem nopZpX74 (zp : Byte) : Statement (.nopZpX74 zp) :=
  ⟨⟨_, (rfl : opcodeRow 0x74#8 = some _), rfl, rfl, rfl⟩, rfl⟩

theorem nopImp7A : Statement (.nopImp7A) :=
  ⟨⟨_, (rfl : opcodeRow 0x7A#8 = some _), rfl, rfl, rfl⟩, rfl⟩

theorem nopAbsX7C (addr : Word) : Statement (.nopAbsX7C addr) :=
  ⟨⟨_, (rfl : opcodeRow 0x7C#8 = some _), rfl, rfl, rfl⟩, rfl⟩

theorem nopImm80 (imm : Byte) : Statement (.nopImm80 imm) :=
  ⟨⟨_, (rfl : opcodeRow 0x80#8 = some _), rfl, rfl, rfl⟩, rfl⟩

theorem nopImm82 (imm : Byte) : Statement (.nopImm82 imm) :=
  ⟨⟨_, (rfl : opcodeRow 0x82#8 = some _), rfl, rfl, rfl⟩, rfl⟩

theorem nopImm89 (imm : Byte) : Statement (.nopImm89 imm) :=
  ⟨⟨_, (rfl : opcodeRow 0x89#8 = some _), rfl, rfl, rfl⟩, rfl⟩

theorem nopImmC2 (imm : Byte) : Statement (.nopImmC2 imm) :=
  ⟨⟨_, (rfl : opcodeRow 0xC2#8 = some _), rfl, rfl, rfl⟩, rfl⟩

theorem nopZpXD4 (zp : Byte) : Statement (.nopZpXD4 zp) :=
  ⟨⟨_, (rfl : opcodeRow 0xD4#8 = some _), rfl, rfl, rfl⟩, rfl⟩

theorem nopImpDA : Statement (.nopImpDA) :=
  ⟨⟨_, (rfl : opcodeRow 0xDA#8 = some _), rfl, rfl, rfl⟩, rfl⟩

theorem nopAbsXDC (addr : Word) : Statement (.nopAbsXDC addr) :=
  ⟨⟨_, (rfl : opcodeRow 0xDC#8 = some _), rfl, rfl, rfl⟩, rfl⟩

theorem nopImmE2 (imm : Byte) : Statement (.nopImmE2 imm) :=
  ⟨⟨_, (rfl : opcodeRow 0xE2#8 = some _), rfl, rfl, rfl⟩, rfl⟩

theorem nop : Statement (.nop) :=
  ⟨⟨_, (rfl : opcodeRow 0xEA#8 = some _), rfl, rfl, rfl⟩, rfl⟩

theorem nopZpXF4 (zp : Byte) : Statement (.nopZpXF4 zp) :=
  ⟨⟨_, (rfl : opcodeRow 0xF4#8 = some _), rfl, rfl, rfl⟩, rfl⟩

theorem nopImpFA : Statement (.nopImpFA) :=
  ⟨⟨_, (rfl : opcodeRow 0xFA#8 = some _), rfl, rfl, rfl⟩, rfl⟩

theorem nopAbsXFC (addr : Word) : Statement (.nopAbsXFC addr) :=
  ⟨⟨_, (rfl : opcodeRow 0xFC#8 = some _), rfl, rfl, rfl⟩, rfl⟩

theorem brk : Statement (.brk) :=
  ⟨⟨_, (rfl : opcodeRow 0x00#8 = some _), rfl, rfl, rfl⟩, rfl⟩

theorem rti : Statement (.rti) :=
  ⟨⟨_, (rfl : opcodeRow 0x40#8 = some _), rfl, rfl, rfl⟩, rfl⟩

theorem pha : Statement (.pha) :=
  ⟨⟨_, (rfl : opcodeRow 0x48#8 = some _), rfl, rfl, rfl⟩, rfl⟩

theorem pla : Statement (.pla) :=
  ⟨⟨_, (rfl : opcodeRow 0x68#8 = some _), rfl, rfl, rfl⟩, rfl⟩

theorem php : Statement (.php) :=
  ⟨⟨_, (rfl : opcodeRow 0x08#8 = some _), rfl, rfl, rfl⟩, rfl⟩

theorem plp : Statement (.plp) :=
  ⟨⟨_, (rfl : opcodeRow 0x28#8 = some _), rfl, rfl, rfl⟩, rfl⟩

theorem clc : Statement (.clc) :=
  ⟨⟨_, (rfl : opcodeRow 0x18#8 = some _), rfl, rfl, rfl⟩, rfl⟩

theorem sec : Statement (.sec) :=
  ⟨⟨_, (rfl : opcodeRow 0x38#8 = some _), rfl, rfl, rfl⟩, rfl⟩

theorem cli : Statement (.cli) :=
  ⟨⟨_, (rfl : opcodeRow 0x58#8 = some _), rfl, rfl, rfl⟩, rfl⟩

theorem sei : Statement (.sei) :=
  ⟨⟨_, (rfl : opcodeRow 0x78#8 = some _), rfl, rfl, rfl⟩, rfl⟩

theorem cld : Statement (.cld) :=
  ⟨⟨_, (rfl : opcodeRow 0xD8#8 = some _), rfl, rfl, rfl⟩, rfl⟩

theorem sed : Statement (.sed) :=
  ⟨⟨_, (rfl : opcodeRow 0xF8#8 = some _), rfl, rfl, rfl⟩, rfl⟩

theorem clv : Statement (.clv) :=
  ⟨⟨_, (rfl : opcodeRow 0xB8#8 = some _), rfl, rfl, rfl⟩, rfl⟩

theorem sloIndX (zp : Byte) : Statement (.sloIndX zp) :=
  ⟨⟨_, (rfl : opcodeRow 0x03#8 = some _), rfl, rfl, rfl⟩, rfl⟩

theorem sloZp (zp : Byte) : Statement (.sloZp zp) :=
  ⟨⟨_, (rfl : opcodeRow 0x07#8 = some _), rfl, rfl, rfl⟩, rfl⟩

theorem sloAbs (addr : Word) : Statement (.sloAbs addr) :=
  ⟨⟨_, (rfl : opcodeRow 0x0F#8 = some _), rfl, rfl, rfl⟩, rfl⟩

theorem sloIndY (zp : Byte) : Statement (.sloIndY zp) :=
  ⟨⟨_, (rfl : opcodeRow 0x13#8 = some _), rfl, rfl, rfl⟩, rfl⟩

theorem sloZpX (zp : Byte) : Statement (.sloZpX zp) :=
  ⟨⟨_, (rfl : opcodeRow 0x17#8 = some _), rfl, rfl, rfl⟩, rfl⟩

theorem sloAbsY (addr : Word) : Statement (.sloAbsY addr) :=
  ⟨⟨_, (rfl : opcodeRow 0x1B#8 = some _), rfl, rfl, rfl⟩, rfl⟩

theorem sloAbsX (addr : Word) : Statement (.sloAbsX addr) :=
  ⟨⟨_, (rfl : opcodeRow 0x1F#8 = some _), rfl, rfl, rfl⟩, rfl⟩

theorem rlaIndX (zp : Byte) : Statement (.rlaIndX zp) :=
  ⟨⟨_, (rfl : opcodeRow 0x23#8 = some _), rfl, rfl, rfl⟩, rfl⟩

theorem rlaZp (zp : Byte) : Statement (.rlaZp zp) :=
  ⟨⟨_, (rfl : opcodeRow 0x27#8 = some _), rfl, rfl, rfl⟩, rfl⟩

theorem rlaAbs (addr : Word) : Statement (.rlaAbs addr) :=
  ⟨⟨_, (rfl : opcodeRow 0x2F#8 = some _), rfl, rfl, rfl⟩, rfl⟩

theorem rlaIndY (zp : Byte) : Statement (.rlaIndY zp) :=
  ⟨⟨_, (rfl : opcodeRow 0x33#8 = some _), rfl, rfl, rfl⟩, rfl⟩

theorem rlaZpX (zp : Byte) : Statement (.rlaZpX zp) :=
  ⟨⟨_, (rfl : opcodeRow 0x37#8 = some _), rfl, rfl, rfl⟩, rfl⟩

theorem rlaAbsY (addr : Word) : Statement (.rlaAbsY addr) :=
  ⟨⟨_, (rfl : opcodeRow 0x3B#8 = some _), rfl, rfl, rfl⟩, rfl⟩

theorem rlaAbsX (addr : Word) : Statement (.rlaAbsX addr) :=
  ⟨⟨_, (rfl : opcodeRow 0x3F#8 = some _), rfl, rfl, rfl⟩, rfl⟩

theorem sreIndX (zp : Byte) : Statement (.sreIndX zp) :=
  ⟨⟨_, (rfl : opcodeRow 0x43#8 = some _), rfl, rfl, rfl⟩, rfl⟩

theorem sreZp (zp : Byte) : Statement (.sreZp zp) :=
  ⟨⟨_, (rfl : opcodeRow 0x47#8 = some _), rfl, rfl, rfl⟩, rfl⟩

theorem sreAbs (addr : Word) : Statement (.sreAbs addr) :=
  ⟨⟨_, (rfl : opcodeRow 0x4F#8 = some _), rfl, rfl, rfl⟩, rfl⟩

theorem sreIndY (zp : Byte) : Statement (.sreIndY zp) :=
  ⟨⟨_, (rfl : opcodeRow 0x53#8 = some _), rfl, rfl, rfl⟩, rfl⟩

theorem sreZpX (zp : Byte) : Statement (.sreZpX zp) :=
  ⟨⟨_, (rfl : opcodeRow 0x57#8 = some _), rfl, rfl, rfl⟩, rfl⟩

theorem sreAbsY (addr : Word) : Statement (.sreAbsY addr) :=
  ⟨⟨_, (rfl : opcodeRow 0x5B#8 = some _), rfl, rfl, rfl⟩, rfl⟩

theorem sreAbsX (addr : Word) : Statement (.sreAbsX addr) :=
  ⟨⟨_, (rfl : opcodeRow 0x5F#8 = some _), rfl, rfl, rfl⟩, rfl⟩

theorem rraIndX (zp : Byte) : Statement (.rraIndX zp) :=
  ⟨⟨_, (rfl : opcodeRow 0x63#8 = some _), rfl, rfl, rfl⟩, rfl⟩

theorem rraZp (zp : Byte) : Statement (.rraZp zp) :=
  ⟨⟨_, (rfl : opcodeRow 0x67#8 = some _), rfl, rfl, rfl⟩, rfl⟩

theorem rraAbs (addr : Word) : Statement (.rraAbs addr) :=
  ⟨⟨_, (rfl : opcodeRow 0x6F#8 = some _), rfl, rfl, rfl⟩, rfl⟩

theorem rraIndY (zp : Byte) : Statement (.rraIndY zp) :=
  ⟨⟨_, (rfl : opcodeRow 0x73#8 = some _), rfl, rfl, rfl⟩, rfl⟩

theorem rraZpX (zp : Byte) : Statement (.rraZpX zp) :=
  ⟨⟨_, (rfl : opcodeRow 0x77#8 = some _), rfl, rfl, rfl⟩, rfl⟩

theorem rraAbsY (addr : Word) : Statement (.rraAbsY addr) :=
  ⟨⟨_, (rfl : opcodeRow 0x7B#8 = some _), rfl, rfl, rfl⟩, rfl⟩

theorem rraAbsX (addr : Word) : Statement (.rraAbsX addr) :=
  ⟨⟨_, (rfl : opcodeRow 0x7F#8 = some _), rfl, rfl, rfl⟩, rfl⟩

theorem dcpIndX (zp : Byte) : Statement (.dcpIndX zp) :=
  ⟨⟨_, (rfl : opcodeRow 0xC3#8 = some _), rfl, rfl, rfl⟩, rfl⟩

theorem dcpZp (zp : Byte) : Statement (.dcpZp zp) :=
  ⟨⟨_, (rfl : opcodeRow 0xC7#8 = some _), rfl, rfl, rfl⟩, rfl⟩

theorem dcpAbs (addr : Word) : Statement (.dcpAbs addr) :=
  ⟨⟨_, (rfl : opcodeRow 0xCF#8 = some _), rfl, rfl, rfl⟩, rfl⟩

theorem dcpIndY (zp : Byte) : Statement (.dcpIndY zp) :=
  ⟨⟨_, (rfl : opcodeRow 0xD3#8 = some _), rfl, rfl, rfl⟩, rfl⟩

theorem dcpZpX (zp : Byte) : Statement (.dcpZpX zp) :=
  ⟨⟨_, (rfl : opcodeRow 0xD7#8 = some _), rfl, rfl, rfl⟩, rfl⟩

theorem dcpAbsY (addr : Word) : Statement (.dcpAbsY addr) :=
  ⟨⟨_, (rfl : opcodeRow 0xDB#8 = some _), rfl, rfl, rfl⟩, rfl⟩

theorem dcpAbsX (addr : Word) : Statement (.dcpAbsX addr) :=
  ⟨⟨_, (rfl : opcodeRow 0xDF#8 = some _), rfl, rfl, rfl⟩, rfl⟩

theorem isbIndX (zp : Byte) : Statement (.isbIndX zp) :=
  ⟨⟨_, (rfl : opcodeRow 0xE3#8 = some _), rfl, rfl, rfl⟩, rfl⟩

theorem isbZp (zp : Byte) : Statement (.isbZp zp) :=
  ⟨⟨_, (rfl : opcodeRow 0xE7#8 = some _), rfl, rfl, rfl⟩, rfl⟩

theorem isbAbs (addr : Word) : Statement (.isbAbs addr) :=
  ⟨⟨_, (rfl : opcodeRow 0xEF#8 = some _), rfl, rfl, rfl⟩, rfl⟩

theorem isbIndY (zp : Byte) : Statement (.isbIndY zp) :=
  ⟨⟨_, (rfl : opcodeRow 0xF3#8 = some _), rfl, rfl, rfl⟩, rfl⟩

theorem isbZpX (zp : Byte) : Statement (.isbZpX zp) :=
  ⟨⟨_, (rfl : opcodeRow 0xF7#8 = some _), rfl, rfl, rfl⟩, rfl⟩

theorem isbAbsY (addr : Word) : Statement (.isbAbsY addr) :=
  ⟨⟨_, (rfl : opcodeRow 0xFB#8 = some _), rfl, rfl, rfl⟩, rfl⟩

theorem isbAbsX (addr : Word) : Statement (.isbAbsX addr) :=
  ⟨⟨_, (rfl : opcodeRow 0xFF#8 = some _), rfl, rfl, rfl⟩, rfl⟩

theorem saxIndX (zp : Byte) : Statement (.saxIndX zp) :=
  ⟨⟨_, (rfl : opcodeRow 0x83#8 = some _), rfl, rfl, rfl⟩, rfl⟩

theorem saxZp (zp : Byte) : Statement (.saxZp zp) :=
  ⟨⟨_, (rfl : opcodeRow 0x87#8 = some _), rfl, rfl, rfl⟩, rfl⟩

theorem saxAbs (addr : Word) : Statement (.saxAbs addr) :=
  ⟨⟨_, (rfl : opcodeRow 0x8F#8 = some _), rfl, rfl, rfl⟩, rfl⟩

theorem saxZpY (zp : Byte) : Statement (.saxZpY zp) :=
  ⟨⟨_, (rfl : opcodeRow 0x97#8 = some _), rfl, rfl, rfl⟩, rfl⟩

theorem laxIndX (zp : Byte) : Statement (.laxIndX zp) :=
  ⟨⟨_, (rfl : opcodeRow 0xA3#8 = some _), rfl, rfl, rfl⟩, rfl⟩

theorem laxZp (zp : Byte) : Statement (.laxZp zp) :=
  ⟨⟨_, (rfl : opcodeRow 0xA7#8 = some _), rfl, rfl, rfl⟩, rfl⟩

theorem laxAbs (addr : Word) : Statement (.laxAbs addr) :=
  ⟨⟨_, (rfl : opcodeRow 0xAF#8 = some _), rfl, rfl, rfl⟩, rfl⟩

theorem laxIndY (zp : Byte) : Statement (.laxIndY zp) :=
  ⟨⟨_, (rfl : opcodeRow 0xB3#8 = some _), rfl, rfl, rfl⟩, rfl⟩

theorem laxZpY (zp : Byte) : Statement (.laxZpY zp) :=
  ⟨⟨_, (rfl : opcodeRow 0xB7#8 = some _), rfl, rfl, rfl⟩, rfl⟩

theorem laxAbsY (addr : Word) : Statement (.laxAbsY addr) :=
  ⟨⟨_, (rfl : opcodeRow 0xBF#8 = some _), rfl, rfl, rfl⟩, rfl⟩

theorem lasAbsY (addr : Word) : Statement (.lasAbsY addr) :=
  ⟨⟨_, (rfl : opcodeRow 0xBB#8 = some _), rfl, rfl, rfl⟩, rfl⟩

theorem ancImm0B (imm : Byte) : Statement (.ancImm0B imm) :=
  ⟨⟨_, (rfl : opcodeRow 0x0B#8 = some _), rfl, rfl, rfl⟩, rfl⟩

theorem ancImm2B (imm : Byte) : Statement (.ancImm2B imm) :=
  ⟨⟨_, (rfl : opcodeRow 0x2B#8 = some _), rfl, rfl, rfl⟩, rfl⟩

theorem alrImm (imm : Byte) : Statement (.alrImm imm) :=
  ⟨⟨_, (rfl : opcodeRow 0x4B#8 = some _), rfl, rfl, rfl⟩, rfl⟩

theorem arrImm (imm : Byte) : Statement (.arrImm imm) :=
  ⟨⟨_, (rfl : opcodeRow 0x6B#8 = some _), rfl, rfl, rfl⟩, rfl⟩

theorem axsImm (imm : Byte) : Statement (.axsImm imm) :=
  ⟨⟨_, (rfl : opcodeRow 0xCB#8 = some _), rfl, rfl, rfl⟩, rfl⟩

theorem xaaImm (imm : Byte) : Statement (.xaaImm imm) :=
  ⟨⟨_, (rfl : opcodeRow 0x8B#8 = some _), rfl, rfl, rfl⟩, rfl⟩

theorem lxaImm (imm : Byte) : Statement (.lxaImm imm) :=
  ⟨⟨_, (rfl : opcodeRow 0xAB#8 = some _), rfl, rfl, rfl⟩, rfl⟩

theorem ahxIndY (zp : Byte) : Statement (.ahxIndY zp) :=
  ⟨⟨_, (rfl : opcodeRow 0x93#8 = some _), rfl, rfl, rfl⟩, rfl⟩

theorem ahxAbsY (addr : Word) : Statement (.ahxAbsY addr) :=
  ⟨⟨_, (rfl : opcodeRow 0x9F#8 = some _), rfl, rfl, rfl⟩, rfl⟩

theorem shyAbsX (addr : Word) : Statement (.shyAbsX addr) :=
  ⟨⟨_, (rfl : opcodeRow 0x9C#8 = some _), rfl, rfl, rfl⟩, rfl⟩

theorem shxAbsY (addr : Word) : Statement (.shxAbsY addr) :=
  ⟨⟨_, (rfl : opcodeRow 0x9E#8 = some _), rfl, rfl, rfl⟩, rfl⟩

theorem tasAbsY (addr : Word) : Statement (.tasAbsY addr) :=
  ⟨⟨_, (rfl : opcodeRow 0x9B#8 = some _), rfl, rfl, rfl⟩, rfl⟩

theorem jam02 : Statement (.jam02) :=
  ⟨⟨_, (rfl : opcodeRow 0x02#8 = some _), rfl, rfl, rfl⟩, rfl⟩

theorem jam12 : Statement (.jam12) :=
  ⟨⟨_, (rfl : opcodeRow 0x12#8 = some _), rfl, rfl, rfl⟩, rfl⟩

theorem jam22 : Statement (.jam22) :=
  ⟨⟨_, (rfl : opcodeRow 0x22#8 = some _), rfl, rfl, rfl⟩, rfl⟩

theorem jam32 : Statement (.jam32) :=
  ⟨⟨_, (rfl : opcodeRow 0x32#8 = some _), rfl, rfl, rfl⟩, rfl⟩

theorem jam42 : Statement (.jam42) :=
  ⟨⟨_, (rfl : opcodeRow 0x42#8 = some _), rfl, rfl, rfl⟩, rfl⟩

theorem jam52 : Statement (.jam52) :=
  ⟨⟨_, (rfl : opcodeRow 0x52#8 = some _), rfl, rfl, rfl⟩, rfl⟩

theorem jam62 : Statement (.jam62) :=
  ⟨⟨_, (rfl : opcodeRow 0x62#8 = some _), rfl, rfl, rfl⟩, rfl⟩

theorem jam72 : Statement (.jam72) :=
  ⟨⟨_, (rfl : opcodeRow 0x72#8 = some _), rfl, rfl, rfl⟩, rfl⟩

theorem jam92 : Statement (.jam92) :=
  ⟨⟨_, (rfl : opcodeRow 0x92#8 = some _), rfl, rfl, rfl⟩, rfl⟩

theorem jamB2 : Statement (.jamB2) :=
  ⟨⟨_, (rfl : opcodeRow 0xB2#8 = some _), rfl, rfl, rfl⟩, rfl⟩

theorem jamD2 : Statement (.jamD2) :=
  ⟨⟨_, (rfl : opcodeRow 0xD2#8 = some _), rfl, rfl, rfl⟩, rfl⟩

theorem jamF2 : Statement (.jamF2) :=
  ⟨⟨_, (rfl : opcodeRow 0xF2#8 = some _), rfl, rfl, rfl⟩, rfl⟩

/-- Every instruction has its row. -/
theorem everyRow : ∀ i : Instr, Statement i
  | .ldaIndX zp => ldaIndX zp
  | .ldaZp zp => ldaZp zp
  | .ldaImm imm => ldaImm imm
  | .ldaAbs addr => ldaAbs addr
  | .ldaIndY zp => ldaIndY zp
  | .ldaZpX zp => ldaZpX zp
  | .ldaAbsY addr => ldaAbsY addr
  | .ldaAbsX addr => ldaAbsX addr
  | .ldxImm imm => ldxImm imm
  | .ldxZp zp => ldxZp zp
  | .ldxAbs addr => ldxAbs addr
  | .ldxZpY zp => ldxZpY zp
  | .ldxAbsY addr => ldxAbsY addr
  | .ldyImm imm => ldyImm imm
  | .ldyZp zp => ldyZp zp
  | .ldyAbs addr => ldyAbs addr
  | .ldyZpX zp => ldyZpX zp
  | .ldyAbsX addr => ldyAbsX addr
  | .staIndX zp => staIndX zp
  | .staZp zp => staZp zp
  | .staAbs addr => staAbs addr
  | .staIndY zp => staIndY zp
  | .staZpX zp => staZpX zp
  | .staAbsY addr => staAbsY addr
  | .staAbsX addr => staAbsX addr
  | .stxZp zp => stxZp zp
  | .stxAbs addr => stxAbs addr
  | .stxZpY zp => stxZpY zp
  | .styZp zp => styZp zp
  | .styAbs addr => styAbs addr
  | .styZpX zp => styZpX zp
  | .tax => tax
  | .tay => tay
  | .txa => txa
  | .tya => tya
  | .tsx => tsx
  | .txs => txs
  | .adcIndX zp => adcIndX zp
  | .adcZp zp => adcZp zp
  | .adcImm imm => adcImm imm
  | .adcAbs addr => adcAbs addr
  | .adcIndY zp => adcIndY zp
  | .adcZpX zp => adcZpX zp
  | .adcAbsY addr => adcAbsY addr
  | .adcAbsX addr => adcAbsX addr
  | .sbcIndX zp => sbcIndX zp
  | .sbcZp zp => sbcZp zp
  | .sbcImm imm => sbcImm imm
  | .sbcImmEB imm => sbcImmEB imm
  | .sbcAbs addr => sbcAbs addr
  | .sbcIndY zp => sbcIndY zp
  | .sbcZpX zp => sbcZpX zp
  | .sbcAbsY addr => sbcAbsY addr
  | .sbcAbsX addr => sbcAbsX addr
  | .cmpIndX zp => cmpIndX zp
  | .cmpZp zp => cmpZp zp
  | .cmpImm imm => cmpImm imm
  | .cmpAbs addr => cmpAbs addr
  | .cmpIndY zp => cmpIndY zp
  | .cmpZpX zp => cmpZpX zp
  | .cmpAbsY addr => cmpAbsY addr
  | .cmpAbsX addr => cmpAbsX addr
  | .cpxImm imm => cpxImm imm
  | .cpxZp zp => cpxZp zp
  | .cpxAbs addr => cpxAbs addr
  | .cpyImm imm => cpyImm imm
  | .cpyZp zp => cpyZp zp
  | .cpyAbs addr => cpyAbs addr
  | .andIndX zp => andIndX zp
  | .andZp zp => andZp zp
  | .andImm imm => andImm imm
  | .andAbs addr => andAbs addr
  | .andIndY zp => andIndY zp
  | .andZpX zp => andZpX zp
  | .andAbsY addr => andAbsY addr
  | .andAbsX addr => andAbsX addr
  | .oraIndX zp => oraIndX zp
  | .oraZp zp => oraZp zp
  | .oraImm imm => oraImm imm
  | .oraAbs addr => oraAbs addr
  | .oraIndY zp => oraIndY zp
  | .oraZpX zp => oraZpX zp
  | .oraAbsY addr => oraAbsY addr
  | .oraAbsX addr => oraAbsX addr
  | .eorIndX zp => eorIndX zp
  | .eorZp zp => eorZp zp
  | .eorImm imm => eorImm imm
  | .eorAbs addr => eorAbs addr
  | .eorIndY zp => eorIndY zp
  | .eorZpX zp => eorZpX zp
  | .eorAbsY addr => eorAbsY addr
  | .eorAbsX addr => eorAbsX addr
  | .bitZp zp => bitZp zp
  | .bitAbs addr => bitAbs addr
  | .incZp zp => incZp zp
  | .incAbs addr => incAbs addr
  | .incZpX zp => incZpX zp
  | .incAbsX addr => incAbsX addr
  | .decZp zp => decZp zp
  | .decAbs addr => decAbs addr
  | .decZpX zp => decZpX zp
  | .decAbsX addr => decAbsX addr
  | .inx => inx
  | .iny => iny
  | .dex => dex
  | .dey => dey
  | .aslZp zp => aslZp zp
  | .aslAcc => aslAcc
  | .aslAbs addr => aslAbs addr
  | .aslZpX zp => aslZpX zp
  | .aslAbsX addr => aslAbsX addr
  | .lsrZp zp => lsrZp zp
  | .lsrAcc => lsrAcc
  | .lsrAbs addr => lsrAbs addr
  | .lsrZpX zp => lsrZpX zp
  | .lsrAbsX addr => lsrAbsX addr
  | .rolZp zp => rolZp zp
  | .rolAcc => rolAcc
  | .rolAbs addr => rolAbs addr
  | .rolZpX zp => rolZpX zp
  | .rolAbsX addr => rolAbsX addr
  | .rorZp zp => rorZp zp
  | .rorAcc => rorAcc
  | .rorAbs addr => rorAbs addr
  | .rorZpX zp => rorZpX zp
  | .rorAbsX addr => rorAbsX addr
  | .jmpAbs addr => jmpAbs addr
  | .jmpInd ptr => jmpInd ptr
  | .jsr addr => jsr addr
  | .rts => rts
  | .bcc rel => bcc rel
  | .bcs rel => bcs rel
  | .beq rel => beq rel
  | .bne rel => bne rel
  | .bmi rel => bmi rel
  | .bpl rel => bpl rel
  | .bvc rel => bvc rel
  | .bvs rel => bvs rel
  | .nopZp04 zp => nopZp04 zp
  | .nopAbs0C addr => nopAbs0C addr
  | .nopZpX14 zp => nopZpX14 zp
  | .nopImp1A => nopImp1A
  | .nopAbsX1C addr => nopAbsX1C addr
  | .nopZpX34 zp => nopZpX34 zp
  | .nopImp3A => nopImp3A
  | .nopAbsX3C addr => nopAbsX3C addr
  | .nopZp44 zp => nopZp44 zp
  | .nopZpX54 zp => nopZpX54 zp
  | .nopImp5A => nopImp5A
  | .nopAbsX5C addr => nopAbsX5C addr
  | .nopZp64 zp => nopZp64 zp
  | .nopZpX74 zp => nopZpX74 zp
  | .nopImp7A => nopImp7A
  | .nopAbsX7C addr => nopAbsX7C addr
  | .nopImm80 imm => nopImm80 imm
  | .nopImm82 imm => nopImm82 imm
  | .nopImm89 imm => nopImm89 imm
  | .nopImmC2 imm => nopImmC2 imm
  | .nopZpXD4 zp => nopZpXD4 zp
  | .nopImpDA => nopImpDA
  | .nopAbsXDC addr => nopAbsXDC addr
  | .nopImmE2 imm => nopImmE2 imm
  | .nop => nop
  | .nopZpXF4 zp => nopZpXF4 zp
  | .nopImpFA => nopImpFA
  | .nopAbsXFC addr => nopAbsXFC addr
  | .brk => brk
  | .rti => rti
  | .pha => pha
  | .pla => pla
  | .php => php
  | .plp => plp
  | .clc => clc
  | .sec => sec
  | .cli => cli
  | .sei => sei
  | .cld => cld
  | .sed => sed
  | .clv => clv
  | .sloIndX zp => sloIndX zp
  | .sloZp zp => sloZp zp
  | .sloAbs addr => sloAbs addr
  | .sloIndY zp => sloIndY zp
  | .sloZpX zp => sloZpX zp
  | .sloAbsY addr => sloAbsY addr
  | .sloAbsX addr => sloAbsX addr
  | .rlaIndX zp => rlaIndX zp
  | .rlaZp zp => rlaZp zp
  | .rlaAbs addr => rlaAbs addr
  | .rlaIndY zp => rlaIndY zp
  | .rlaZpX zp => rlaZpX zp
  | .rlaAbsY addr => rlaAbsY addr
  | .rlaAbsX addr => rlaAbsX addr
  | .sreIndX zp => sreIndX zp
  | .sreZp zp => sreZp zp
  | .sreAbs addr => sreAbs addr
  | .sreIndY zp => sreIndY zp
  | .sreZpX zp => sreZpX zp
  | .sreAbsY addr => sreAbsY addr
  | .sreAbsX addr => sreAbsX addr
  | .rraIndX zp => rraIndX zp
  | .rraZp zp => rraZp zp
  | .rraAbs addr => rraAbs addr
  | .rraIndY zp => rraIndY zp
  | .rraZpX zp => rraZpX zp
  | .rraAbsY addr => rraAbsY addr
  | .rraAbsX addr => rraAbsX addr
  | .dcpIndX zp => dcpIndX zp
  | .dcpZp zp => dcpZp zp
  | .dcpAbs addr => dcpAbs addr
  | .dcpIndY zp => dcpIndY zp
  | .dcpZpX zp => dcpZpX zp
  | .dcpAbsY addr => dcpAbsY addr
  | .dcpAbsX addr => dcpAbsX addr
  | .isbIndX zp => isbIndX zp
  | .isbZp zp => isbZp zp
  | .isbAbs addr => isbAbs addr
  | .isbIndY zp => isbIndY zp
  | .isbZpX zp => isbZpX zp
  | .isbAbsY addr => isbAbsY addr
  | .isbAbsX addr => isbAbsX addr
  | .saxIndX zp => saxIndX zp
  | .saxZp zp => saxZp zp
  | .saxAbs addr => saxAbs addr
  | .saxZpY zp => saxZpY zp
  | .laxIndX zp => laxIndX zp
  | .laxZp zp => laxZp zp
  | .laxAbs addr => laxAbs addr
  | .laxIndY zp => laxIndY zp
  | .laxZpY zp => laxZpY zp
  | .laxAbsY addr => laxAbsY addr
  | .lasAbsY addr => lasAbsY addr
  | .ancImm0B imm => ancImm0B imm
  | .ancImm2B imm => ancImm2B imm
  | .alrImm imm => alrImm imm
  | .arrImm imm => arrImm imm
  | .axsImm imm => axsImm imm
  | .xaaImm imm => xaaImm imm
  | .lxaImm imm => lxaImm imm
  | .ahxIndY zp => ahxIndY zp
  | .ahxAbsY addr => ahxAbsY addr
  | .shyAbsX addr => shyAbsX addr
  | .shxAbsY addr => shxAbsY addr
  | .tasAbsY addr => tasAbsY addr
  | .jam02 => jam02
  | .jam12 => jam12
  | .jam22 => jam22
  | .jam32 => jam32
  | .jam42 => jam42
  | .jam52 => jam52
  | .jam62 => jam62
  | .jam72 => jam72
  | .jam92 => jam92
  | .jamB2 => jamB2
  | .jamD2 => jamD2
  | .jamF2 => jamF2

end Sys2Proof.Laws.TableRow
end

