-- ==== Sys2Proof/Laws/Shape.lean ====
section
/-! SUPPORT. `exec` by shape: what an instruction does is a function of its mnemonic's kind, its operand and its row's
cost. One case split over the 256 constructors is done here, so that a proof about `exec` splits over kinds. -/

namespace Sys2Proof.Laws

open Sys2Proof Sys2Proof.Machine

/-- The kinds of meaning, each with what it is built from. -/
inductive Kind where
  | implied (effect : State → State)
  | read (effect : Byte → State → State)
  | store (before : State → State) (value : Place → State → Byte)
  | modify (result : Byte → State → Byte) (effect : Byte → Byte → State → State) (onA : State → State)
  | branch (taken : State → Bool)
  | push (value : State → Byte)
  | pull (effect : Byte → State → State)
  | jump
  | call
  | rts
  | rti
  | brk
  | jam

/-- The kind of a mnemonic. A combined modify instruction has no accumulator form; its last argument is unused. -/
def kindOf : Mnemonic → Kind
  | .lda => .read ldaEffect
  | .ldx => .read ldxEffect
  | .ldy => .read ldyEffect
  | .sta => .store id staValue
  | .stx => .store id stxValue
  | .sty => .store id styValue
  | .tax => .implied taxEffect
  | .tay => .implied tayEffect
  | .txa => .implied txaEffect
  | .tya => .implied tyaEffect
  | .tsx => .implied tsxEffect
  | .txs => .implied txsEffect
  | .adc => .read adcEffect
  | .sbc => .read sbcEffect
  | .cmp => .read cmpEffect
  | .cpx => .read cpxEffect
  | .cpy => .read cpyEffect
  | .and => .read andEffect
  | .ora => .read oraEffect
  | .eor => .read eorEffect
  | .bit => .read bitEffect
  | .inc => .modify incResult incEffect id
  | .dec => .modify decResult decEffect id
  | .inx => .implied inxEffect
  | .iny => .implied inyEffect
  | .dex => .implied dexEffect
  | .dey => .implied deyEffect
  | .asl => .modify aslResult aslEffect aslAccEffect
  | .lsr => .modify lsrResult lsrEffect lsrAccEffect
  | .rol => .modify rolResult rolEffect rolAccEffect
  | .ror => .modify rorResult rorEffect rorAccEffect
  | .jmp => .jump
  | .jsr => .call
  | .rts => .rts
  | .bcc => .branch bccTaken
  | .bcs => .branch bcsTaken
  | .beq => .branch beqTaken
  | .bne => .branch bneTaken
  | .bmi => .branch bmiTaken
  | .bpl => .branch bplTaken
  | .bvc => .branch bvcTaken
  | .bvs => .branch bvsTaken
  | .nop => .read nopReadEffect
  | .brk => .brk
  | .rti => .rti
  | .pha => .push phaByte
  | .pla => .pull plaEffect
  | .php => .push phpByte
  | .plp => .pull plpEffect
  | .clc => .implied clcEffect
  | .sec => .implied secEffect
  | .cli => .implied cliEffect
  | .sei => .implied seiEffect
  | .cld => .implied cldEffect
  | .sed => .implied sedEffect
  | .clv => .implied clvEffect
  | .slo => .modify sloResult sloEffect id
  | .rla => .modify rlaResult rlaEffect id
  | .sre => .modify sreResult sreEffect id
  | .rra => .modify rraResult rraEffect id
  | .dcp => .modify dcpResult dcpEffect id
  | .isb => .modify isbResult isbEffect id
  | .sax => .store id saxValue
  | .lax => .read laxEffect
  | .las => .read lasEffect
  | .anc => .read ancEffect
  | .alr => .read alrEffect
  | .arr => .read arrEffect
  | .axs => .read axsEffect
  | .xaa => .read xaaEffect
  | .lxa => .read lxaEffect
  | .ahx => .store id ahxValue
  | .shy => .store id shyValue
  | .shx => .store id shxValue
  | .tas => .store tasBefore tasValue
  | .jam => .jam

/-- What an instruction of a kind does with its operand. -/
def Kind.run (k : Kind) (o : Operand) (c : Cost) (s : State) : Host.Outcome State Fault Refusal :=
  match k, o with
  | .implied effect, _ => impliedForm c effect s
  | .read effect, .immediate v => immediateForm v c effect s
  | .read effect, .memory m => readForm m c effect s
  | .read _, _ => impliedForm c nopEffect s
  | .store before value, .memory m => storeForm m c before value s
  | .modify result effect _, .memory m => rmwForm m c result effect s
  | .modify _ _ onA, _ => impliedForm c onA s
  | .branch taken, .relative rel => branchForm rel c (taken s) s
  | .push value, _ => pushForm c value s
  | .pull effect, _ => pullForm c effect s
  | .jump, .memory (.absolute addr) => jumpTo addr c s
  | .jump, .indirect ptr => jumpIndirect ptr c s
  | .call, .memory (.absolute addr) => callSubroutine addr c s
  | .rts, _ => returnFromSubroutine c s
  | .rti, _ => returnFromInterruptForm c s
  | .brk, _ => softwareBreak c s
  | .jam, _ => jamForm s
  | _, _ => .next s

/-- Every arm of `exec` is its mnemonic's kind run on its operand. -/
theorem exec_eq_run (i : Instr) (s : State) : exec i s = (kindOf i.mnemonic).run i.operand (costOf i.opcode) s := by
  cases i <;> rfl

/-- The cost of an instruction's row, in the terms statements use. -/
theorem costOf_opcode (i : Instr) : costOf i.opcode = { cycles := i.baseCycles, pageCross := i.pageCross } := by
  unfold costOf Instr.baseCycles Instr.pageCross
  cases opcodeRow i.opcode <;> rfl

/-- The base cycles of an instruction, from its opcode's row: `baseCycles_eq (op := 0x20#8) rfl rfl`. -/
theorem baseCycles_eq {i : Instr} {op : Byte} {row : OpcodeRow} (h : i.opcode = op) (hrow : opcodeRow op = some row) :
    i.baseCycles = row.cycles := by
  unfold Instr.baseCycles
  rw [h, hrow]

/-- A row takes the page-cross penalty exactly when it reads its operand and indexes a 16-bit base (R114). -/
theorem pageCross_eq (i : Instr) : i.pageCross = (i.mnemonic.reads && TableRow.indexedMode i.mode) := by
  obtain ⟨⟨row, hrow, -, -, h⟩, -⟩ := TableRow.everyRow i
  unfold Instr.pageCross
  rw [hrow]
  exact h

/-- What the rules of the modes say a row costs. -/
def rowCostOk (row : OpcodeRow) : Bool :=
  (!row.mnemonic.reads || row.cycles == readCycles row.mode) &&
    (!row.mnemonic.stores || row.cycles == storeCycles row.mode) &&
    (!row.mnemonic.modifies || row.cycles == modifyCycles row.mode)

/-- Every line of the table costs what the rules of the modes say. -/
theorem opcodeLine_cost : ∀ h : Fin 16, (opcodeLine h).all rowCostOk = true := by decide

theorem opcodeRow_cost {op : Byte} {row : OpcodeRow} (h : opcodeRow op = some row) : rowCostOk row = true := by
  have hb : op.toNat / 16 < 16 := by omega
  exact List.all_eq_true.mp (opcodeLine_cost ⟨op.toNat / 16, hb⟩) row (List.mem_of_getElem? h)

/-- An instruction costs what the rules of its mode say. -/
theorem baseCycles_cost (i : Instr) :
    (i.mnemonic.reads = true → i.baseCycles = readCycles i.mode) ∧
    (i.mnemonic.stores = true → i.baseCycles = storeCycles i.mode) ∧
    (i.mnemonic.modifies = true → i.baseCycles = modifyCycles i.mode) := by
  obtain ⟨⟨row, hrow, hm, hmode, -⟩, -⟩ := TableRow.everyRow i
  have hc := opcodeRow_cost hrow
  have hb : i.baseCycles = row.cycles := baseCycles_eq rfl hrow
  simp only [rowCostOk, hm, hmode, Bool.and_eq_true, Bool.or_eq_true, Bool.not_eq_true', beq_iff_eq] at hc
  refine ⟨fun h => ?_, fun h => ?_, fun h => ?_⟩ <;> simp_all

/-- The operand of an instruction has one of its mnemonic's modes. -/
theorem mode_mem (i : Instr) : i.mode ∈ i.mnemonic.modes := by
  cases i <;> (simp only [Instr.mode, Instr.mnemonic, Instr.operand, Operand.mode, MemForm.mode]; decide)

end Sys2Proof.Laws
end

