-- ==== Sys2Proof/Laws/Keep.lean ====
section
/-! SUPPORT. What a whole instruction keeps: a property kept by the bus accesses, by `tick`, by a new pc and by a new run
status is kept by every operation built of them, and by an instruction whose own effect keeps it. -/

namespace Sys2Proof.Laws

open Sys2Proof Sys2Proof.Machine

/-- A property that no bus read, no `tick`, no new pc and no new run status ends. -/
structure Kept (P : State → Prop) : Prop where
  read : ∀ addr s, P s → P (busRead addr s).state
  tick : ∀ n s, P s → P (tick n s)
  pc : ∀ w s, P s → P { s with pc := w }
  status : ∀ r s, P s → P { s with status := r }

variable {P : State → Prop}

theorem busReadPair_keeps (hP : Kept P) (lo hi : Word) {s : State} (h : P s) : P (busReadPair lo hi s).state := by
  unfold busReadPair
  exact andThen_state (hP.read _ _ h) fun _ _ _ h => andThen_state (hP.read _ _ h) fun _ _ _ h => h

theorem resolve_keeps (hP : Kept P) (m : MemForm) {s : State} (h : P s) : P (resolve m s).state := by
  cases m <;> unfold resolve
  case indirectX => exact andThen_state (busReadPair_keeps hP _ _ h) fun _ _ _ h => h
  case indirectY => exact andThen_state (busReadPair_keeps hP _ _ h) fun _ _ _ h => h
  all_goals exact h

theorem complete_keeps (hP : Kept P) (k n : Nat) {s : State} (h : P s) : P (complete k n s) :=
  hP.tick _ _ (hP.pc _ _ h)

/-- A property that no bus write ends. -/
def KeptByWrite (P : State → Prop) : Prop := ∀ addr v s, P s → P (busWrite addr v s).state

/-- A property that no write of the stack pointer ends. -/
def KeptByS (P : State → Prop) : Prop := ∀ (b : Byte) (s : State), P s → P { s with s := b }

theorem busWrite16_keeps (hW : KeptByWrite P) (addr w : Word) {s : State} (h : P s) : P (busWrite16 addr w s).state := by
  unfold busWrite16
  exact andThen_state (hW _ _ _ h) fun _ _ _ h => hW _ _ _ h

theorem push8_keeps (hW : KeptByWrite P) (hS : KeptByS P) (v : Byte) {s : State} (h : P s) : P (push8 v s).state := by
  unfold push8
  exact andThen_state (hW _ _ _ h) fun _ _ _ h => hS _ _ h

theorem pull8_keeps (hP : Kept P) (hS : KeptByS P) {s : State} (h : P s) : P (pull8 s).state := by
  unfold pull8
  exact hP.read _ _ (hS _ _ h)

theorem push16_keeps (hW : KeptByWrite P) (hS : KeptByS P) (w : Word) {s : State} (h : P s) : P (push16 w s).state := by
  unfold push16
  exact andThen_state (push8_keeps hW hS _ h) fun _ _ _ h => push8_keeps hW hS _ h

theorem pull16_keeps (hP : Kept P) (hS : KeptByS P) {s : State} (h : P s) : P (pull16 s).state := by
  unfold pull16
  exact andThen_state (pull8_keeps hP hS h) fun _ _ _ h =>
    andThen_state (pull8_keeps hP hS h) fun _ _ _ h => h

/-- The interrupt entry keeps what its pushes, its I flag and its vector read keep. -/
theorem interruptEntry_keeps (hP : Kept P) (hW : KeptByWrite P) (hS : KeptByS P)
    (hI : ∀ s, P s → P { s with p := setFlag .i true s.p }) (d : Descriptor) {s : State} (h : P s) : P (interruptEntry d s).state := by
  unfold interruptEntry
  refine andThen_state (push16_keeps hW hS _ h) fun _ _ _ h => ?_
  refine andThen_state (push8_keeps hW hS _ h) fun _ _ _ h => ?_
  exact andThen_state (busReadPair_keeps hP _ _ (hP.tick _ _ (hI _ h))) fun _ _ _ h => hP.pc _ _ h

/-- What an instruction's own effect must keep, for its kind and operand. -/
def Kind.Keeps (P : State → Prop) (k : Kind) (o : Operand) : Prop :=
  match k, o with
  | .implied effect, _ => ∀ s, P s → P (effect s)
  | .read effect, _ => ∀ v s, P s → P (effect v s)
  | .store before _, _ => ∀ s, P s → P (before s)
  | .modify _ effect _, .memory _ => ∀ v r s, P s → P (effect v r s)
  | .modify _ _ onA, _ => ∀ s, P s → P (onA s)
  | .branch _, _ => True
  | .push _, _ => KeptByS P
  | .pull effect, _ => KeptByS P ∧ ∀ v s, P s → P (effect v s)
  | .jump, _ => True
  | .call, _ => KeptByS P
  | .rts, _ => KeptByS P
  | .rti, _ => KeptByS P ∧ ∀ b s, P s → P { s with p := pulledStatus b }
  | .brk, _ => KeptByS P ∧ ∀ s, P s → P { s with p := setFlag .i true s.p }
  | .jam, _ => True

/-- The kinds and operands that write the bus. -/
def Kind.writes (k : Kind) (o : Operand) : Bool :=
  match k, o with
  | .store _ _, .memory _ => true
  | .modify _ _ _, .memory _ => true
  | .push _, _ => true
  | .call, .memory (.absolute _) => true
  | .brk, _ => true
  | _, _ => false

/-- A settled access sequence answers its end state. -/
theorem settle_next {r : Access Unit} {t : State} (h : settle r = .next t) : t = r.state := by
  unfold settle at h
  injection h with h
  exact h.symm

theorem readForm_keeps (hP : Kept P) {m : MemForm} {c : Cost} {effect : Byte → State → State}
    (he : ∀ v s, P s → P (effect v s)) {s t : State} (h : P s) (ht : readForm m c effect s = .next t) : P t := by
  rw [settle_next ht]
  exact andThen_state (resolve_keeps hP m h) fun _ _ _ h =>
    andThen_state (hP.read _ _ h) fun _ _ _ h => complete_keeps hP _ _ (he _ _ h)

theorem storeForm_keeps (hP : Kept P) (hW : KeptByWrite P) {m : MemForm} {c : Cost} {before : State → State}
    {value : Place → State → Byte} (hb : ∀ s, P s → P (before s)) {s t : State} (h : P s) (ht : storeForm m c before value s = .next t) : P t := by
  rw [settle_next ht]
  exact andThen_state (resolve_keeps hP m h) fun _ _ _ h =>
    andThen_state (hW _ _ _ (hb _ h)) fun _ _ _ h => complete_keeps hP _ _ h

theorem rmwForm_keeps (hP : Kept P) (hW : KeptByWrite P) {m : MemForm} {c : Cost}
    {result : Byte → State → Byte} {effect : Byte → Byte → State → State} (he : ∀ v r s, P s → P (effect v r s))
    {s t : State} (h : P s) (ht : rmwForm m c result effect s = .next t) : P t := by
  rw [settle_next ht]
  exact andThen_state (resolve_keeps hP m h) fun _ _ _ h =>
    andThen_state (hP.read _ _ h) fun _ _ _ h =>
    andThen_state (hW _ _ _ h) fun _ _ _ h => complete_keeps hP _ _ (he _ _ _ h)

/-- An instruction keeps what the accesses keep and its own effect keeps. -/
theorem run_keeps (hP : Kept P) {k : Kind} {o : Operand} {c : Cost} (hw : k.writes o = true → KeptByWrite P)
    (hk : k.Keeps P o) {s t : State} (h : P s) (ht : k.run o c s = .next t) : P t := by
  unfold Kind.run at ht
  unfold Kind.Keeps at hk
  unfold Kind.writes at hw
  split at ht
  · injection ht with ht; subst ht; exact complete_keeps hP _ _ (hk _ h)
  · injection ht with ht; subst ht; exact complete_keeps hP _ _ (hk _ _ h)
  · exact readForm_keeps hP hk h ht
  · injection ht with ht; subst ht; exact complete_keeps hP _ _ h
  · exact storeForm_keeps hP (hw rfl) hk h ht
  · exact rmwForm_keeps hP (hw rfl) hk h ht
  · injection ht with ht; subst ht
    refine complete_keeps hP _ _ ?_
    split at hk <;> simp_all
  · unfold branchForm at ht
    split at ht <;> (injection ht with ht; subst ht)
    · exact hP.tick _ _ (hP.pc _ _ h)
    · exact complete_keeps hP _ _ h
  · rw [settle_next ht]
    exact andThen_state (push8_keeps (hw rfl) hk _ h) fun _ _ _ h => complete_keeps hP _ _ h
  · rw [settle_next ht]
    exact andThen_state (pull8_keeps hP hk.1 h) fun _ _ _ h => complete_keeps hP _ _ (hk.2 _ _ h)
  · injection ht with ht; subst ht; exact hP.tick _ _ (hP.pc _ _ h)
  · rw [settle_next ht]
    exact andThen_state (busReadPair_keeps hP _ _ h) fun _ _ _ h => hP.tick _ _ (hP.pc _ _ h)
  · rw [settle_next ht]
    exact andThen_state (push16_keeps (hw rfl) hk _ h) fun _ _ _ h => hP.tick _ _ (hP.pc _ _ h)
  · rw [settle_next ht]
    exact andThen_state (pull16_keeps hP hk h) fun _ _ _ h => hP.tick _ _ (hP.pc _ _ h)
  · rw [settle_next ht]
    refine andThen_state ?_ fun _ _ _ h => hP.tick _ _ h
    exact andThen_state (pull8_keeps hP hk.1 h) fun _ _ _ h =>
      andThen_state (pull16_keeps hP hk.1 (hk.2 _ _ h)) fun _ _ _ h => hP.pc _ _ h
  · unfold softwareBreak at ht
    split at ht <;> rw [settle_next ht]
    · exact hP.status _ _ h
    · exact andThen_state (interruptEntry_keeps hP (hw rfl) hk.1 hk.2 _ h) fun _ _ _ h => hP.tick _ _ h
  · rw [settle_next ht]
    exact hP.status _ _ h
  · injection ht with ht; subst ht; exact h

theorem readBytes_keeps (hP : Kept P) (n : Nat) (addr : Word) {s : State} (h : P s) : P (readBytes n addr s).state := by
  induction n generalizing addr s with
  | zero => exact h
  | succ n ih =>
    unfold readBytes
    exact andThen_state (hP.read _ _ h) fun _ _ _ h => andThen_state (ih _ h) fun _ _ _ h => h

theorem fetch_keeps (hP : Kept P) {s : State} (h : P s) : P (fetch s).state := by
  unfold fetch
  refine andThen_state (hP.read _ _ (hP.pc _ _ h)) fun _ _ _ h => ?_
  refine andThen_state (readBytes_keeps hP _ _ h) fun _ _ _ h => ?_
  split
  · exact h
  · exact hP.status _ _ h

/-- An instruction always answers a next state. -/
theorem run_next (k : Kind) (o : Operand) (c : Cost) (s : State) : ∃ t, k.run o c s = .next t := by
  unfold Kind.run
  split
  case h_8 => unfold branchForm; split <;> exact ⟨_, rfl⟩
  case h_16 => unfold softwareBreak; split <;> exact ⟨_, rfl⟩
  all_goals exact ⟨_, rfl⟩

/-- A step keeps what its accesses, its NMI entry and its instruction's effect keep. -/
theorem step_keeps (hP : Kept P) (hW : KeptByWrite P) (hS : KeptByS P)
    (hI : ∀ s, P s → P { s with p := setFlag .i true s.p })
    (hn : ∀ s, P s → P { s with ppu := { s.ppu with nmiPending := false } })
    (hf : ∀ s, P s → P { s with frameDone := false })
    (hk : ∀ i : Instr, (kindOf i.mnemonic).Keeps P i.operand) {s t : State} (h : P s) (ht : step s = .next t) : P t := by
  have hbegin : P (beginStep s).state := by
    unfold beginStep
    refine andThen_state ?_ fun _ _ _ h => fetch_keeps hP h
    unfold pollNmi
    split
    · exact interruptEntry_keeps hP hW hS hI _ (hn _ (hf _ h))
    · exact hf _ h
  unfold step at ht
  split at ht
  · split at ht
    · next i u hu =>
      rw [hu] at hbegin
      rw [exec_eq_run] at ht
      exact run_keeps hP (fun _ => hW) (hk i) hbegin ht
    · next u hu =>
      rw [hu] at hbegin
      injection ht with ht
      subst ht
      exact hbegin
  · injection ht with ht; subst ht; exact h
  · injection ht with ht; subst ht; exact h

end Sys2Proof.Laws
end

