-- ==== Sys2Proof/Laws/Effects.lean ====
section
/-! SUPPORT. What the effects of the instructions can do, once for all of them: each writes registers and P only, and only
the status pulls write Break and Break2. -/

namespace Sys2Proof.Laws

open Sys2Proof Sys2Proof.Machine

/-- The live Break and Break2 of two status bytes agree. -/
def SameBreaks (p q : Byte) : Prop := getFlag .b q = getFlag .b p ∧ getFlag .u q = getFlag .u p

theorem SameBreaks.refl (p : Byte) : SameBreaks p p := ⟨rfl, rfl⟩

theorem sameBreaks_setFlag {f : Flag} {p q : Byte} (v : Bool) (hb : f ≠ .b) (hu : f ≠ .u) (h : SameBreaks p q) :
    SameBreaks p (setFlag f v q) := by
  unfold SameBreaks
  rw [getFlag_setFlag_ne v q (Ne.symm hb), getFlag_setFlag_ne v q (Ne.symm hu)]
  exact h

theorem sameBreaks_setZN {p q : Byte} (v : Byte) (h : SameBreaks p q) : SameBreaks p (setZN v q) :=
  sameBreaks_setFlag _ (by decide) (by decide) (sameBreaks_setFlag _ (by decide) (by decide) h)

theorem sameBreaks_carry (v : Byte) (c : Bool) (p : Byte) : SameBreaks p (setZN v (setFlag .c c p)) :=
  sameBreaks_setZN v (sameBreaks_setFlag c (by decide) (by decide) (.refl p))

theorem sameBreaks_sum (r : Sum) (p : Byte) : SameBreaks p (sumFlags r p) :=
  sameBreaks_setZN _ (sameBreaks_setFlag _ (by decide) (by decide)
    (sameBreaks_setFlag _ (by decide) (by decide) (.refl p)))

theorem sameBreaks_bit (a m p : Byte) : SameBreaks p (bitFlags a m p) :=
  sameBreaks_setFlag _ (by decide) (by decide) (sameBreaks_setFlag _ (by decide) (by decide)
    (sameBreaks_setFlag _ (by decide) (by decide) (.refl p)))

theorem sameBreaks_arr (a p : Byte) : SameBreaks p (arrFlags a p) :=
  sameBreaks_setFlag _ (by decide) (by decide) (sameBreaks_setFlag _ (by decide) (by decide)
    (sameBreaks_setZN a (.refl p)))

theorem sameBreaks_anc (v : Byte) (c : Bool) (p : Byte) : SameBreaks p (setFlag .c c (setZN v p)) :=
  sameBreaks_setFlag _ (by decide) (by decide) (sameBreaks_setZN v (.refl p))

/-- A property kept by every write of the four registers and of P that leaves Break and Break2, and by a status pull, is
kept by the effect of every instruction. -/
theorem kindOf_keeps {P : State → Prop}
    (hreg : ∀ (s : State) (a x y sp p : Byte), SameBreaks s.p p → P s → P { s with a := a, x := x, y := y, s := sp, p := p })
    (hpull : ∀ (b : Byte) (s : State), P s → P { s with p := pulledStatus b }) (m : Mnemonic) (o : Operand) :
    (kindOf m).Keeps P o := by
  have hS : KeptByS P := fun b s h => hreg s s.a s.x s.y b s.p (.refl _) h
  have hzn : ∀ (s : State) (a x y sp v : Byte), P s → P { s with a := a, x := x, y := y, s := sp, p := setZN v s.p } :=
    fun s a x y sp v h => hreg s a x y sp _ (sameBreaks_setZN v (.refl _)) h
  have hflag : ∀ (f : Flag) (v : Bool), f ≠ .b → f ≠ .u → ∀ s, P s → P { s with p := setFlag f v s.p } :=
    fun f v hb hu s h => hreg s s.a s.x s.y s.s _ (sameBreaks_setFlag v hb hu (.refl _)) h
  have hcar : ∀ (s : State) (a x y sp v : Byte) (c : Bool), P s →
      P { s with a := a, x := x, y := y, s := sp, p := setZN v (setFlag .c c s.p) } :=
    fun s a x y sp v c h => hreg s a x y sp _ (sameBreaks_carry v c _) h
  have hsum : ∀ (s : State) (a : Byte) (r : Sum), P s → P { s with a := a, p := sumFlags r s.p } :=
    fun s a r h => hreg s a s.x s.y s.s _ (sameBreaks_sum r _) h
  cases m
  case lda => exact fun v s h => hzn s v s.x s.y s.s v h
  case ldx => exact fun v s h => hzn s s.a v s.y s.s v h
  case ldy => exact fun v s h => hzn s s.a s.x v s.s v h
  case sta => exact fun s h => h
  case stx => exact fun s h => h
  case sty => exact fun s h => h
  case tax => exact fun s h => hzn s s.a s.a s.y s.s s.a h
  case tay => exact fun s h => hzn s s.a s.x s.a s.s s.a h
  case txa => exact fun s h => hzn s s.x s.x s.y s.s s.x h
  case tya => exact fun s h => hzn s s.y s.x s.y s.s s.y h
  case tsx => exact fun s h => hzn s s.a s.s s.y s.s s.s h
  case txs => exact fun s h => hS s.x s h
  case adc => exact fun v s h => hsum s _ _ h
  case sbc => exact fun v s h => hsum s _ _ h
  case cmp => exact fun v s h => hcar s s.a s.x s.y s.s _ _ h
  case cpx => exact fun v s h => hcar s s.a s.x s.y s.s _ _ h
  case cpy => exact fun v s h => hcar s s.a s.x s.y s.s _ _ h
  case and => exact fun v s h => hzn s _ s.x s.y s.s _ h
  case ora => exact fun v s h => hzn s _ s.x s.y s.s _ h
  case eor => exact fun v s h => hzn s _ s.x s.y s.s _ h
  case bit => exact fun v s h => hreg s s.a s.x s.y s.s _ (sameBreaks_bit _ _ _) h
  case inx => exact fun s h => hzn s s.a _ s.y s.s _ h
  case iny => exact fun s h => hzn s s.a s.x _ s.s _ h
  case dex => exact fun s h => hzn s s.a _ s.y s.s _ h
  case dey => exact fun s h => hzn s s.a s.x _ s.s _ h
  case inc => cases o <;> first | exact fun v r s h => hzn s s.a s.x s.y s.s r h | exact fun s h => h
  case dec => cases o <;> first | exact fun v r s h => hzn s s.a s.x s.y s.s r h | exact fun s h => h
  case asl => cases o <;> first
    | exact fun v r s h => hcar s s.a s.x s.y s.s _ _ h | exact fun s h => hcar s _ s.x s.y s.s _ _ h
  case lsr => cases o <;> first
    | exact fun v r s h => hcar s s.a s.x s.y s.s _ _ h | exact fun s h => hcar s _ s.x s.y s.s _ _ h
  case rol => cases o <;> first
    | exact fun v r s h => hcar s s.a s.x s.y s.s _ _ h | exact fun s h => hcar s _ s.x s.y s.s _ _ h
  case ror => cases o <;> first
    | exact fun v r s h => hcar s s.a s.x s.y s.s _ _ h | exact fun s h => hcar s _ s.x s.y s.s _ _ h
  case nop => exact fun v s h => h
  case brk => exact ⟨hS, hflag .i true (by decide) (by decide)⟩
  case rti => exact ⟨hS, hpull⟩
  case pla => exact ⟨hS, fun v s h => hzn s v s.x s.y s.s v h⟩
  case plp => exact ⟨hS, fun v s h => hpull v s h⟩
  case pha => exact hS
  case php => exact hS
  case jsr => exact hS
  case rts => exact hS
  case jmp => trivial
  case jam => trivial
  case bcc => trivial
  case bcs => trivial
  case beq => trivial
  case bne => trivial
  case bmi => trivial
  case bpl => trivial
  case bvc => trivial
  case bvs => trivial
  case clc => exact hflag .c false (by decide) (by decide)
  case sec => exact hflag .c true (by decide) (by decide)
  case cli => exact hflag .i false (by decide) (by decide)
  case sei => exact hflag .i true (by decide) (by decide)
  case cld => exact hflag .d false (by decide) (by decide)
  case sed => exact hflag .d true (by decide) (by decide)
  case clv => exact hflag .v false (by decide) (by decide)
  case slo => cases o <;> first | exact fun v r s h => hcar s _ s.x s.y s.s _ _ h | exact fun s h => h
  case rla => cases o <;> first | exact fun v r s h => hcar s _ s.x s.y s.s _ _ h | exact fun s h => h
  case sre => cases o <;> first | exact fun v r s h => hcar s _ s.x s.y s.s _ _ h | exact fun s h => h
  case rra => cases o <;> first | exact fun v r s h => hsum s _ _ h | exact fun s h => h
  case dcp => cases o <;> first | exact fun v r s h => hcar s s.a s.x s.y s.s _ _ h | exact fun s h => h
  case isb => cases o <;> first | exact fun v r s h => hsum s _ _ h | exact fun s h => h
  case sax => exact fun s h => h
  case lax => exact fun v s h => hzn s v v s.y s.s v h
  case las => exact fun v s h => hzn s _ _ s.y _ _ h
  case anc => exact fun v s h => hreg s _ s.x s.y s.s _ (sameBreaks_anc _ _ _) h
  case alr => exact fun v s h => hcar s _ s.x s.y s.s _ _ h
  case arr => exact fun v s h => hreg s _ s.x s.y s.s _ (sameBreaks_arr _ _) h
  case axs => exact fun v s h => hcar s s.a _ s.y s.s _ _ h
  case xaa => exact fun v s h => hzn s _ s.x s.y s.s _ h
  case lxa => exact fun v s h => hzn s _ _ s.y s.s _ h
  case ahx => exact fun s h => h
  case shy => exact fun s h => h
  case shx => exact fun s h => h
  case tas => exact fun s h => hS _ s h

end Sys2Proof.Laws
end

