-- ==== Sys2Proof/Laws/Fetch.lean ====
section
/-! SUPPORT. The laws of fetching: bus reads do not look at pc, and a read of n bytes gives n bytes. -/

namespace Sys2Proof.Machine

/-- An access's answer with pc replaced in the state it leaves. -/
def Access.setPc {α : Type} (w : Word) : Access α → Access α
  | .ok v s => .ok v { s with pc := w }
  | .raised s => .raised { s with pc := w }

@[simp] theorem Access.setPc_ok {α : Type} (w : Word) (v : α) (s : State) :
    (Access.ok v s).setPc w = .ok v { s with pc := w } := rfl

@[simp] theorem Access.setPc_raised {α : Type} (w : Word) (s : State) :
    (Access.raised s : Access α).setPc w = .raised { s with pc := w } := rfl

/-- A bus read neither looks at pc nor writes it. -/
theorem busRead_setPc (addr w : Word) (s : State) : busRead addr { s with pc := w } = (busRead addr s).setPc w := by
  unfold busRead
  have hregion : regionOf { s with pc := w } addr = regionOf s addr := rfl
  rw [hregion]
  cases regionOf s addr with
  | ram k => rfl
  | unmapped => rfl
  | rom k => rfl
  | ppu reg =>
    dsimp only
    cases ppuRegRead s.rom s.ppu reg with
    | some r => rfl
    | none =>
      dsimp only [violation]
      cases s.cfg.invalidAccess <;> rfl

/-- A read of bytes neither looks at pc nor writes it. -/
theorem readBytes_setPc (n : Nat) (addr w : Word) (s : State) :
    readBytes n addr { s with pc := w } = (readBytes n addr s).setPc w := by
  induction n generalizing addr s with
  | zero => rfl
  | succ n ih =>
    unfold readBytes
    rw [busRead_setPc]
    cases busRead addr s with
    | raised t => rfl
    | ok b t =>
      simp only [Access.setPc_ok, andThen_ok, ih]
      cases readBytes n (addr + 1#16) t <;> rfl

/-- A read of `n` bytes gives `n` bytes. -/
theorem readBytes_length {n : Nat} {addr : Word} {s t : State} {bytes : List Byte}
    (h : readBytes n addr s = .ok bytes t) : bytes.length = n := by
  induction n generalizing addr s t bytes with
  | zero => injection h with h1 h2; subst h1; rfl
  | succ n ih =>
    unfold readBytes at h
    obtain ⟨b, u, h1, h2⟩ := andThen_eq_ok.1 h
    obtain ⟨rest, u', h3, h4⟩ := andThen_eq_ok.1 h2
    injection h4 with h4 h5
    subst h4
    rw [List.length_cons, ih h3]

/-- The operand bytes an instruction's own opcode asks for. -/
theorem operandCount_opcode (i : Instr) : operandCount i.opcode = i.length - 1 := by
  obtain ⟨⟨row, hrow, -, hmode, -⟩, -⟩ := Laws.TableRow.everyRow i
  unfold operandCount
  rw [hrow]
  dsimp only
  rw [hmode]
  rfl

/-- A step whose beginning fetches an instruction runs it (R120). -/
theorem step_begun {s t : State} {i : Instr} (h : s.status = .running) (hb : beginStep s = .ok i t) :
    step s = exec i t := by
  unfold step
  simp only [h, hb]

/-- A step whose beginning raises ends in that access's state (R305). -/
theorem step_beginRaised {s t : State} (h : s.status = .running) (hb : beginStep s = .raised t) : step s = .next t := by
  unfold step
  simp only [h, hb]

/-- A step's beginning is its fetch, once the NMI poll did not raise. -/
theorem beginStep_polled {s t : State} (hpoll : pollNmi { s with frameDone := false } = .ok () t) :
    beginStep s = fetch t := by
  rw [beginStep, hpoll, andThen_ok]

/-- A step's beginning ends where its NMI entry raises. -/
theorem beginStep_entryRaised {s u : State} (hpoll : pollNmi { s with frameDone := false } = .raised u) :
    beginStep s = .raised u := by
  rw [beginStep, hpoll, andThen_raised]

end Sys2Proof.Machine
end

