-- ==== Sys2Proof/Laws/Ppu.lean ====
section
/-! SUPPORT. The laws of PPU time: what the cycles of a `Tick` leave alone, that runs add up, and runs inside a line. -/

namespace Sys2Proof.Machine

/-- What PPU cycles may change: the counters, Status and the NMI request. -/
def PpuTimeFrame (p q : Ppu) : Prop :=
  q = { p with cycle := q.cycle, scanline := q.scanline, status := q.status, nmiPending := q.nmiPending }

theorem PpuTimeFrame.refl (p : Ppu) : PpuTimeFrame p p := rfl

theorem PpuTimeFrame.trans {p q r : Ppu} (h : PpuTimeFrame p q) (h' : PpuTimeFrame q r) : PpuTimeFrame p r := by
  unfold PpuTimeFrame at *
  rw [h', h]

theorem ppuCycle_frame (p : Ppu) : PpuTimeFrame p (ppuCycle p).1 := by
  unfold ppuCycle ppuEndLine
  split
  · dsimp only
    split
    · rfl
    · split <;> rfl
  · rfl

/-- A `Tick` of any length changes only the counters, Status and the NMI request. -/
theorem ppuRun_frame (n : Nat) (p : Ppu) : PpuTimeFrame p (ppuRun n p).1 := by
  induction n generalizing p with
  | zero => rfl
  | succ n ih => exact (ppuCycle_frame p).trans (ih _)

/-- Cycles add up, and a frame completes in a run if it does in a part of it. -/
theorem ppuRun_add (m n : Nat) (p : Ppu) :
    ppuRun (m + n) p = ((ppuRun n (ppuRun m p).1).1, (ppuRun m p).2 || (ppuRun n (ppuRun m p).1).2) := by
  induction m generalizing p with
  | zero => simp [ppuRun]
  | succ m ih =>
    have hsucc : m + 1 + n = (m + n) + 1 := by omega
    rw [hsucc]
    simp only [ppuRun, ih, Bool.or_assoc]

/-- A run completes a frame exactly when one of its cycles does (D32). -/
theorem ppuRun_completes (n : Nat) (p : Ppu) :
    (ppuRun n p).2 = true ↔ ∃ k, k < n ∧ (ppuCycle (ppuRun k p).1).2 = true := by
  induction n with
  | zero => simp [ppuRun]
  | succ n ih =>
    rw [ppuRun_add n 1]
    simp only [ppuRun, Bool.or_false, Bool.or_eq_true, ih, Nat.lt_succ_iff_lt_or_eq]
    constructor
    · rintro (⟨k, hk, h⟩ | h)
      · exact ⟨k, .inl hk, h⟩
      · exact ⟨n, .inr rfl, h⟩
    · rintro ⟨k, hk | rfl, h⟩
      · exact .inl ⟨k, hk, h⟩
      · exact .inr h

/-- Cycles that stay inside a scanline only move the cycle counter. -/
theorem ppuRun_inLine {n : Nat} {p : Ppu} (h : p.cycle + n ≤ 340) :
    ppuRun n p = ({ p with cycle := p.cycle + n }, false) := by
  induction n generalizing p with
  | zero => rfl
  | succ n ih =>
    have hc : ppuCycle p = ({ p with cycle := p.cycle + 1 }, false) := by
      unfold ppuCycle
      rw [if_neg (by omega)]
    simp only [ppuRun, hc]
    rw [ih (by dsimp only; omega)]
    simp only [Bool.or_self, Prod.mk.injEq, and_true]
    congr 1
    omega

/-- The cycles left in a scanline end it. -/
theorem ppuRun_endLine {p : Ppu} (h : p.cycle ≤ 340) : ppuRun (340 - p.cycle + 1) p = ppuEndLine p := by
  have hline := ppuRun_inLine (n := 340 - p.cycle) (p := p) (by omega)
  have hc : p.cycle + (340 - p.cycle) + 1 = 341 := by omega
  rw [ppuRun_add, hline]
  simp only [ppuRun, ppuCycle, if_pos hc, Bool.false_or, Bool.or_false]
  rfl

/-- The counters of a PPU at rest stay in range, and Status bits 6:0 stay 0 (R37, R333). -/
structure PpuRest (p : Ppu) : Prop where
  cycle : p.cycle ≤ 340
  scanline : p.scanline ≤ 261
  statusLow : p.status &&& 0x7F#8 = 0#8

theorem statusLow_or {v : Byte} (h : v &&& 0x7F#8 = 0#8) : (v ||| 0x80#8) &&& 0x7F#8 = 0#8 := by
  revert h; revert v; decide

theorem statusLow_and {v : Byte} (h : v &&& 0x7F#8 = 0#8) : (v &&& 0x3F#8) &&& 0x7F#8 = 0#8 := by
  revert h; revert v; decide

theorem ppuCycle_rest {p : Ppu} (h : PpuRest p) : PpuRest (ppuCycle p).1 := by
  have h1 := h.cycle
  have h2 := h.scanline
  unfold ppuCycle ppuEndLine
  split
  · dsimp only
    split
    · exact ⟨Nat.zero_le _, by dsimp only; omega, statusLow_or h.statusLow⟩
    · split
      · exact ⟨Nat.zero_le _, Nat.zero_le _, statusLow_and h.statusLow⟩
      · exact ⟨Nat.zero_le _, by dsimp only; omega, h.statusLow⟩
  · exact ⟨by dsimp only; omega, h.scanline, h.statusLow⟩

theorem ppuRun_rest {n : Nat} {p : Ppu} (h : PpuRest p) : PpuRest (ppuRun n p).1 := by
  induction n generalizing p with
  | zero => exact h
  | succ n ih => exact ih (ppuCycle_rest h)

end Sys2Proof.Machine
end

