-- ==== Sys2Proof/Laws/Invariant.lean ====
section
/-! SUPPORT. Each operation keeps the invariant of Safety.lean, the canonical form of every memory among it. -/

namespace Sys2Proof.Machine

theorem statusLow_read {v : Byte} (h : v &&& 0x7F#8 = 0#8) : (v &&& 0x7F#8) &&& 0x7F#8 = 0#8 := by
  rw [h]; decide

/-- The invariant speaks of the memories, P, the counters and Status only. -/
theorem inv_of_fields {s t : State} (h : s.Inv) (hram : t.ram = s.ram) (hvram : t.ppu.vram = s.ppu.vram)
    (hoam : t.ppu.oam = s.ppu.oam) (hpal : t.ppu.pal = s.ppu.pal) (hrom : t.rom = s.rom) (hp : t.p = s.p)
    (hcycle : t.ppu.cycle ≤ 340) (hline : t.ppu.scanline ≤ 261) (hstatus : t.ppu.status &&& 0x7F#8 = 0#8) : t.Inv where
  ram := by rw [hram]; exact h.ram
  vram := by rw [hvram]; exact h.vram
  oam := by rw [hoam]; exact h.oam
  pal := by rw [hpal]; exact h.pal
  prg := by rw [hrom]; exact h.prg
  chr := by rw [hrom]; exact h.chr
  breakClear := by rw [hp]; exact h.breakClear
  break2Set := by rw [hp]; exact h.break2Set
  cycle := hcycle
  scanline := hline
  statusLow := hstatus

theorem busRead_inv (addr : Word) {s : State} (h : s.Inv) : (busRead addr s).state.Inv := by
  obtain ⟨v, t, hr⟩ | ⟨t, hr⟩ := access_cases (busRead addr s)
  · obtain ⟨ht, ⟨hf, hs⟩, -⟩ := busRead_ok hr
    rw [hr, state_ok]
    have hlow : t.ppu.status &&& 0x7F#8 = 0#8 := by
      rcases hs with e | e <;> rw [e]
      · exact h.statusLow
      · exact statusLow_read h.statusLow
    exact inv_of_fields h (by rw [ht]) (by rw [hf]) (by rw [hf]) (by rw [hf]) (by rw [ht]) (by rw [ht])
      (by rw [hf]; exact h.cycle) (by rw [hf]; exact h.scanline) hlow
  · rw [hr, state_raised, (busRead_raised hr).2]
    exact inv_of_fields h rfl rfl rfl rfl rfl rfl h.cycle h.scanline h.statusLow

theorem memoryOk_write {n k : Nat} {m : Memory} (v : Byte) (hk : k < n) (h : MemoryOk n m) :
    MemoryOk n (memWrite m k v) := ⟨memWrite_wf k v h.1, memWrite_within v hk h.2⟩

theorem busWrite_inv (addr : Word) (v : Byte) {s : State} (h : s.Inv) : (busWrite addr v s).state.Inv := by
  obtain ⟨u, t, hr⟩ | ⟨t, hr⟩ := access_cases (busWrite addr v s)
  · rw [hr, state_ok]
    unfold busWrite at hr
    split at hr
    · next k hk =>
      cases hr
      have hlt : k < 2048 := by have := (ram_of_region hk).2; omega
      exact { h with ram := memoryOk_write v hlt h.ram }
    · next reg hreg =>
      split at hr
      · next q hq =>
        cases hr
        obtain ⟨e1, e2, e3, -⟩ := ppuRegWrite_frame hq
        have hmem : MemoryOk 2048 q.vram ∧ MemoryOk 256 q.oam ∧ MemoryOk 32 q.pal := by
          have h0 := And.intro h.vram (And.intro h.oam h.pal)
          cases reg <;> simp only [ppuRegWrite, Option.some.injEq, reduceCtorEq] at hq
          all_goals subst hq
          · exact h0
          · exact h0
          · exact h0
          · exact ⟨h.vram, memoryOk_write v s.ppu.oamAddr.isLt h.oam, h.pal⟩
          · unfold scrollWrite; split <;> exact h0
          · unfold addrWrite; split <;> exact h0
          · unfold dataWrite ppuMemWrite
            split
            · exact h0
            · next k hk => exact ⟨memoryOk_write v (ppuMap_vram_lt hk) h.vram, h.oam, h.pal⟩
            · next k hk => exact ⟨h.vram, h.oam, memoryOk_write v (ppuMap_pal_lt hk) h.pal⟩
        exact { h with
          vram := hmem.1
          oam := hmem.2.1
          pal := hmem.2.2
          cycle := by rw [e2]; exact h.cycle
          scanline := by rw [e3]; exact h.scanline
          statusLow := by rw [e1]; exact h.statusLow }
      · unfold violation at hr
        split at hr
        · cases hr
        · cases hr; exact h
    · cases hr; exact h
    · unfold violation at hr
      split at hr
      · cases hr
      · cases hr; exact h
  · rw [hr, state_raised, busWrite_raised hr]
    exact inv_of_fields h rfl rfl rfl rfl rfl rfl h.cycle h.scanline h.statusLow

theorem tick_inv (n : Nat) {s : State} (h : s.Inv) : (tick n s).Inv := by
  have hrest := ppuRun_rest (n := 3 * n) ⟨h.cycle, h.scanline, h.statusLow⟩
  have hframe : PpuTimeFrame s.ppu (tick n s).ppu := ppuRun_frame (3 * n) s.ppu
  exact inv_of_fields h rfl (by rw [hframe]) (by rw [hframe]) (by rw [hframe]) rfl rfl hrest.cycle hrest.scanline
    hrest.statusLow

/-- A flag write of C, Z, I, D, V or N keeps the live Break and Break2. -/
theorem inv_setP {s : State} {p : Byte} (h : s.Inv) (hb : getFlag .b p = getFlag .b s.p)
    (hu : getFlag .u p = getFlag .u s.p) : ({ s with p := p } : State).Inv :=
  { h with
    breakClear := by rw [hb]; exact h.breakClear
    break2Set := by rw [hu]; exact h.break2Set }

end Sys2Proof.Machine
end

