-- ==== Sys2Proof/Laws/Operands.lean ====
section
/-! SUPPORT. The laws of the addressing modes: a mode always resolves and changes nothing, its pointer bytes coming from page
0 of RAM. -/

namespace Sys2Proof.Machine

theorem zeroPageAddr_lt (b : Byte) : (zeroPageAddr b).toNat < 0x2000 := by
  unfold zeroPageAddr
  rw [zeroExtend16_toNat]
  have := b.isLt
  omega

/-- A pointer in page 0 is read from RAM, and the read changes nothing. -/
theorem readZeroPagePointer_eq (p : Byte) (s : State) :
    readZeroPagePointer p s = .ok (joinBytes (memRead s.ram (p + 1#8).toNat) (memRead s.ram p.toNat)) s := by
  have hindex : ∀ b : Byte, (zeroPageAddr b).toNat % 0x800 = b.toNat := fun b => by
    unfold zeroPageAddr
    rw [zeroExtend16_toNat]
    have := b.isLt
    omega
  unfold readZeroPagePointer busReadPair
  rw [busRead_ram s (zeroPageAddr_lt p), andThen_ok, busRead_ram s (zeroPageAddr_lt (p + 1#8)), andThen_ok, hindex,
    hindex]

/-- Every memory mode resolves, without a raise and without a change of state. -/
theorem resolve_ok (m : MemForm) (s : State) : ∃ pl, resolve m s = .ok pl s := by
  cases m <;> simp only [resolve, readZeroPagePointer_eq, andThen_ok, Access.ok.injEq, and_true, exists_eq']

/-- The state after resolving is the state before. -/
theorem resolve_state {m : MemForm} {s t : State} {pl : Place} (h : resolve m s = .ok pl t) : t = s := by
  obtain ⟨pl', h'⟩ := resolve_ok m s
  rw [h'] at h
  injection h with _ h
  exact h.symm

end Sys2Proof.Machine
end

