-- ==== Sys2Proof/Laws/Reset.lean ====
section
/-! SUPPORT. The memories of the reset state and of a powered-on machine are in canonical form. -/

namespace Sys2Proof.Machine

/-- The memories of `State.reset` are canonical. -/
theorem reset_memories_wf : memoryWf State.reset.ram = true ∧ memoryWf State.reset.ppu.vram = true ∧
    memoryWf State.reset.ppu.oam = true ∧ memoryWf State.reset.ppu.pal = true ∧ memoryWf State.reset.rom.prg = true ∧
    memoryWf State.reset.rom.chr = true := ⟨rfl, rfl, rfl, rfl, rfl, rfl⟩

/-- The four memories of a powered-on machine are canonical and of their size. -/
theorem powerOnState_memories (cfg : Params) (rom : Rom) (init : InitMemories) :
    MemoryOk 2048 (powerOnState cfg rom init).ram ∧ MemoryOk 2048 (powerOnState cfg rom init).ppu.vram ∧
    MemoryOk 256 (powerOnState cfg rom init).ppu.oam ∧ MemoryOk 32 (powerOnState cfg rom init).ppu.pal := by
  have hsize : ∀ (n : Nat) (v : Vector Byte n), MemoryOk n (memOfBytes 0 v.toList) := fun n v => by
    refine ⟨memOfBytes_wf _, ?_⟩
    have hw := memOfBytes_within 0 v.toList
    rw [Vector.length_toList, Nat.zero_add] at hw
    exact hw
  exact ⟨hsize _ _, hsize _ _, hsize _ _, hsize _ _⟩

/-- The program ROM of an accepted cartridge is canonical and of its size. -/
theorem loadRom_prg {c : Cartridge} (h : c.wf = true) : MemoryOk (loadRom c).prgSize.bytes (loadRom c).prg := by
  refine ⟨memOfBytes_wf _, ?_⟩
  have hw := memOfBytes_within 0 c.prgRom
  simp only [Cartridge.wf, Cartridge.prgLengthOk, Bool.and_eq_true, Bool.or_eq_true, beq_iff_eq] at h
  rw [Nat.zero_add] at hw
  unfold loadRom
  dsimp only
  rcases h.1.1.1 with hlen | hlen
  · rw [if_pos hlen]; rw [hlen] at hw; exact hw
  · rw [if_neg (by omega)]; rw [hlen] at hw; exact hw

end Sys2Proof.Machine
end

