-- ==== Sys2Proof/Laws/Stack.lean ====
section
/-! SUPPORT. The stack with its page at 0x0100 (D1): one push and one pull in closed form. -/

namespace Sys2Proof.Machine

theorem stackAddr_toNat {s : State} (h : s.cfg.stackBase = 0x0100#16) : (stackAddr s).toNat = 0x100 + s.s.toNat := by
  have hlt := s.s.isLt
  unfold stackAddr
  rw [h, BitVec.toNat_add, zeroExtend16_toNat, BitVec.toNat_ofNat]
  omega

/-- A push writes the cell S names and moves S down (R22). -/
theorem push8_ram {s : State} (v : Byte) (h : s.cfg.stackBase = 0x0100#16) :
    push8 v s = .ok () { s with ram := memWrite s.ram (0x100 + s.s.toNat) v, s := s.s - 1#8 } := by
  have hlt := s.s.isLt
  have haddr := stackAddr_toNat h
  have hk : (stackAddr s).toNat % 0x800 = 0x100 + s.s.toNat := by omega
  unfold push8
  rw [busWrite_ram s v (by omega), hk]
  rfl

/-- A pull moves S up and reads the cell it then names (R22). -/
theorem pull8_ram {s : State} (h : s.cfg.stackBase = 0x0100#16) :
    pull8 s = .ok (memRead s.ram (0x100 + (s.s + 1#8).toNat)) { s with s := s.s + 1#8 } := by
  have hlt := (s.s + 1#8).isLt
  have haddr := stackAddr_toNat (s := { s with s := s.s + 1#8 }) h
  have hk : (stackAddr { s with s := s.s + 1#8 }).toNat % 0x800 = 0x100 + (s.s + 1#8).toNat := by
    dsimp only at haddr
    omega
  unfold pull8
  rw [busRead_ram _ (by dsimp only at haddr; omega), hk]

end Sys2Proof.Machine
end

