-- ==== Sys2Proof/Laws/State.lean ====
section
/-! SUPPORT. What each named update of the state leaves in each field, so that no proof unfolds a record update: `tick`,
`complete`, and the loads of a register. -/

namespace Sys2Proof.Machine

@[simp] theorem tick_a (n : Nat) (s : State) : (tick n s).a = s.a := rfl

@[simp] theorem tick_x (n : Nat) (s : State) : (tick n s).x = s.x := rfl

@[simp] theorem tick_y (n : Nat) (s : State) : (tick n s).y = s.y := rfl

@[simp] theorem tick_s (n : Nat) (s : State) : (tick n s).s = s.s := rfl

@[simp] theorem tick_pc (n : Nat) (s : State) : (tick n s).pc = s.pc := rfl

@[simp] theorem tick_p (n : Nat) (s : State) : (tick n s).p = s.p := rfl

@[simp] theorem tick_status (n : Nat) (s : State) : (tick n s).status = s.status := rfl

@[simp] theorem tick_ram (n : Nat) (s : State) : (tick n s).ram = s.ram := rfl

@[simp] theorem tick_rom (n : Nat) (s : State) : (tick n s).rom = s.rom := rfl

@[simp] theorem tick_cfg (n : Nat) (s : State) : (tick n s).cfg = s.cfg := rfl

@[simp] theorem tick_ppu (n : Nat) (s : State) : (tick n s).ppu = (ppuRun (3 * n) s.ppu).1 := rfl

@[simp] theorem tick_frameDone (n : Nat) (s : State) :
    (tick n s).frameDone = (s.frameDone || (ppuRun (3 * n) s.ppu).2) := rfl

@[simp] theorem complete_a (k n : Nat) (s : State) : (complete k n s).a = s.a := rfl

@[simp] theorem complete_x (k n : Nat) (s : State) : (complete k n s).x = s.x := rfl

@[simp] theorem complete_y (k n : Nat) (s : State) : (complete k n s).y = s.y := rfl

@[simp] theorem complete_s (k n : Nat) (s : State) : (complete k n s).s = s.s := rfl

@[simp] theorem complete_pc (k n : Nat) (s : State) : (complete k n s).pc = s.pc + BitVec.ofNat 16 k := rfl

@[simp] theorem complete_p (k n : Nat) (s : State) : (complete k n s).p = s.p := rfl

@[simp] theorem complete_status (k n : Nat) (s : State) : (complete k n s).status = s.status := rfl

@[simp] theorem complete_ram (k n : Nat) (s : State) : (complete k n s).ram = s.ram := rfl

@[simp] theorem complete_rom (k n : Nat) (s : State) : (complete k n s).rom = s.rom := rfl

@[simp] theorem complete_cfg (k n : Nat) (s : State) : (complete k n s).cfg = s.cfg := rfl

@[simp] theorem complete_ppu (k n : Nat) (s : State) : (complete k n s).ppu = (ppuRun (3 * n) s.ppu).1 := rfl

@[simp] theorem complete_frameDone (k n : Nat) (s : State) :
    (complete k n s).frameDone = (s.frameDone || (ppuRun (3 * n) s.ppu).2) := rfl

@[simp] theorem loadA_a (v : Byte) (s : State) : (loadA v s).a = v := rfl

@[simp] theorem loadA_x (v : Byte) (s : State) : (loadA v s).x = s.x := rfl

@[simp] theorem loadA_y (v : Byte) (s : State) : (loadA v s).y = s.y := rfl

@[simp] theorem loadA_s (v : Byte) (s : State) : (loadA v s).s = s.s := rfl

@[simp] theorem loadA_pc (v : Byte) (s : State) : (loadA v s).pc = s.pc := rfl

@[simp] theorem loadA_p (v : Byte) (s : State) : (loadA v s).p = setZN v s.p := rfl

@[simp] theorem loadA_status (v : Byte) (s : State) : (loadA v s).status = s.status := rfl

@[simp] theorem loadA_ram (v : Byte) (s : State) : (loadA v s).ram = s.ram := rfl

@[simp] theorem loadA_ppu (v : Byte) (s : State) : (loadA v s).ppu = s.ppu := rfl

@[simp] theorem loadA_rom (v : Byte) (s : State) : (loadA v s).rom = s.rom := rfl

@[simp] theorem loadA_cfg (v : Byte) (s : State) : (loadA v s).cfg = s.cfg := rfl

@[simp] theorem loadA_frameDone (v : Byte) (s : State) : (loadA v s).frameDone = s.frameDone := rfl

@[simp] theorem loadX_a (v : Byte) (s : State) : (loadX v s).a = s.a := rfl

@[simp] theorem loadX_x (v : Byte) (s : State) : (loadX v s).x = v := rfl

@[simp] theorem loadX_y (v : Byte) (s : State) : (loadX v s).y = s.y := rfl

@[simp] theorem loadX_s (v : Byte) (s : State) : (loadX v s).s = s.s := rfl

@[simp] theorem loadX_pc (v : Byte) (s : State) : (loadX v s).pc = s.pc := rfl

@[simp] theorem loadX_p (v : Byte) (s : State) : (loadX v s).p = setZN v s.p := rfl

@[simp] theorem loadX_status (v : Byte) (s : State) : (loadX v s).status = s.status := rfl

@[simp] theorem loadX_ram (v : Byte) (s : State) : (loadX v s).ram = s.ram := rfl

@[simp] theorem loadX_ppu (v : Byte) (s : State) : (loadX v s).ppu = s.ppu := rfl

@[simp] theorem loadX_rom (v : Byte) (s : State) : (loadX v s).rom = s.rom := rfl

@[simp] theorem loadX_cfg (v : Byte) (s : State) : (loadX v s).cfg = s.cfg := rfl

@[simp] theorem loadX_frameDone (v : Byte) (s : State) : (loadX v s).frameDone = s.frameDone := rfl

@[simp] theorem loadY_a (v : Byte) (s : State) : (loadY v s).a = s.a := rfl

@[simp] theorem loadY_x (v : Byte) (s : State) : (loadY v s).x = s.x := rfl

@[simp] theorem loadY_y (v : Byte) (s : State) : (loadY v s).y = v := rfl

@[simp] theorem loadY_s (v : Byte) (s : State) : (loadY v s).s = s.s := rfl

@[simp] theorem loadY_pc (v : Byte) (s : State) : (loadY v s).pc = s.pc := rfl

@[simp] theorem loadY_p (v : Byte) (s : State) : (loadY v s).p = setZN v s.p := rfl

@[simp] theorem loadY_status (v : Byte) (s : State) : (loadY v s).status = s.status := rfl

@[simp] theorem loadY_ram (v : Byte) (s : State) : (loadY v s).ram = s.ram := rfl

@[simp] theorem loadY_ppu (v : Byte) (s : State) : (loadY v s).ppu = s.ppu := rfl

@[simp] theorem loadY_rom (v : Byte) (s : State) : (loadY v s).rom = s.rom := rfl

@[simp] theorem loadY_cfg (v : Byte) (s : State) : (loadY v s).cfg = s.cfg := rfl

@[simp] theorem loadY_frameDone (v : Byte) (s : State) : (loadY v s).frameDone = s.frameDone := rfl

@[simp] theorem addToA_a (m : Byte) (c : Nat) (s : State) : (addToA m c s).a = (addCore s.a m c).result := rfl

@[simp] theorem addToA_x (m : Byte) (c : Nat) (s : State) : (addToA m c s).x = s.x := rfl

@[simp] theorem addToA_y (m : Byte) (c : Nat) (s : State) : (addToA m c s).y = s.y := rfl

@[simp] theorem addToA_s (m : Byte) (c : Nat) (s : State) : (addToA m c s).s = s.s := rfl

@[simp] theorem addToA_pc (m : Byte) (c : Nat) (s : State) : (addToA m c s).pc = s.pc := rfl

@[simp] theorem addToA_p (m : Byte) (c : Nat) (s : State) : (addToA m c s).p = sumFlags (addCore s.a m c) s.p := rfl

@[simp] theorem addToA_status (m : Byte) (c : Nat) (s : State) : (addToA m c s).status = s.status := rfl

@[simp] theorem addToA_ram (m : Byte) (c : Nat) (s : State) : (addToA m c s).ram = s.ram := rfl

@[simp] theorem addToA_ppu (m : Byte) (c : Nat) (s : State) : (addToA m c s).ppu = s.ppu := rfl

@[simp] theorem addToA_rom (m : Byte) (c : Nat) (s : State) : (addToA m c s).rom = s.rom := rfl

@[simp] theorem addToA_cfg (m : Byte) (c : Nat) (s : State) : (addToA m c s).cfg = s.cfg := rfl

@[simp] theorem addToA_frameDone (m : Byte) (c : Nat) (s : State) : (addToA m c s).frameDone = s.frameDone := rfl

@[simp] theorem tasBefore_a (s : State) : (tasBefore s).a = s.a := rfl

@[simp] theorem tasBefore_x (s : State) : (tasBefore s).x = s.x := rfl

@[simp] theorem tasBefore_y (s : State) : (tasBefore s).y = s.y := rfl

@[simp] theorem tasBefore_s (s : State) : (tasBefore s).s = s.a &&& s.x := rfl

@[simp] theorem tasBefore_pc (s : State) : (tasBefore s).pc = s.pc := rfl

@[simp] theorem tasBefore_p (s : State) : (tasBefore s).p = s.p := rfl

@[simp] theorem tasBefore_status (s : State) : (tasBefore s).status = s.status := rfl

@[simp] theorem tasBefore_ram (s : State) : (tasBefore s).ram = s.ram := rfl

@[simp] theorem tasBefore_ppu (s : State) : (tasBefore s).ppu = s.ppu := rfl

@[simp] theorem tasBefore_rom (s : State) : (tasBefore s).rom = s.rom := rfl

@[simp] theorem tasBefore_cfg (s : State) : (tasBefore s).cfg = s.cfg := rfl

@[simp] theorem tasBefore_frameDone (s : State) : (tasBefore s).frameDone = s.frameDone := rfl

end Sys2Proof.Machine
end

