-- ==== Sys2Proof/Tests/Slice0.lean ====
section
/-! SUPPORT. Tests: ill-formed terms that WellFormed refuses, decodings written from the spec's encodings, one-step vectors of
spec/95_test_vectors.md, and for every obligation with hypotheses a witness that meets them. -/

open Sys2Proof Sys2Proof.Machine

/-! ## WellFormed refuses ill-formed terms -/

theorem test_wf_no_store_to_immediate : wellFormed .sta (.immediate 0x00#8) = false := by decide

theorem test_wf_no_ldx_absoluteX : wellFormed .ldx (.memory (.absoluteX 0x1000#16)) = false := by decide

theorem test_wf_no_accumulator_load : wellFormed .lda .accumulator = false := by decide

theorem test_wf_no_jump_through_x : wellFormed .jmp (.memory (.absoluteX 0x1000#16)) = false := by decide

theorem test_wf_no_relative_jsr : wellFormed .jsr (.relative 0x00#8) = false := by decide

theorem test_wf_accepts_lda_indirectY : wellFormed .lda (.memory (.indirectY 0x10#8)) = true := by decide

/-- A cartridge that the model accepts, of 16 KiB. -/
def goodCartridge : Cartridge where
  prgRom := List.replicate 16384 0xEA#8
  chrRom := List.replicate 8192 0x00#8
  mapper := 0x00#8
  mirroring := .vertical

theorem test_cartridge_accepted : goodCartridge.wf = true := by
  simp [goodCartridge, Cartridge.wf, Cartridge.prgLengthOk, Cartridge.mapperOk, Cartridge.chrLengthOk,
    Cartridge.mirroringOk, -List.reduceReplicate]

theorem test_cartridge_prg_length : Cartridge.wf { goodCartridge with prgRom := [0xEA#8] } = false := by
  simp [Cartridge.wf, Cartridge.prgLengthOk]

theorem test_cartridge_mapper : Cartridge.wf { goodCartridge with mapper := 0x01#8 } = false := by
  simp [Cartridge.wf, Cartridge.mapperOk]

theorem test_cartridge_chr_length : Cartridge.wf { goodCartridge with chrRom := [] } = false := by
  simp [Cartridge.wf, Cartridge.chrLengthOk]

theorem test_cartridge_four_screen : Cartridge.wf { goodCartridge with mirroring := .fourScreen } = false := by
  simp [Cartridge.wf, Cartridge.mirroringOk]

/-- Power-on refuses each of the four by its own name (R9, D19, D29). -/
theorem test_powerOn_refuses (init : InitMemories) :
    powerOn .standard { goodCartridge with prgRom := [] } init = .refused .cartridgePrgLength ∧
    powerOn .standard { goodCartridge with mapper := 0x01#8 } init = .refused .cartridgeMapper ∧
    powerOn .standard { goodCartridge with chrRom := [] } init = .refused .cartridgeChrLength ∧
    powerOn .standard { goodCartridge with mirroring := .fourScreen } init = .refused .cartridgeFourScreen := by
  simp [powerOn, goodCartridge, Cartridge.prgLengthOk, Cartridge.mapperOk, Cartridge.chrLengthOk, Cartridge.mirroringOk,
    -List.reduceReplicate]

/-! ## Decoding is right: words written from R90, R91, R95, R96 -/

/-- Load, store, transfer: LDA zp,X is B5 zp; STY zp is 84 zp; TXS is 9A. -/
theorem test_decode_load_store : decode [0xB5#8, 0xFF#8] = .ok (.ldaZpX 0xFF#8) ∧
    decode [0x84#8, 0x00#8] = .ok (.styZp 0x00#8) ∧ decode [0x9A#8] = .ok .txs := by decide

/-- Arithmetic: SBC #imm is E9 imm; BIT abs is 2C lo hi; INC abs,X is FE lo hi. -/
theorem test_decode_arithmetic : decode [0xE9#8, 0xF0#8] = .ok (.sbcImm 0xF0#8) ∧
    decode [0x2C#8, 0x10#8, 0x00#8] = .ok (.bitAbs 0x0010#16) ∧
    decode [0xFE#8, 0xFF#8, 0x02#8] = .ok (.incAbsX 0x02FF#16) := by decide

/-- Shifts: ROL A is 2A; ROR zp is 66 zp. -/
theorem test_decode_shift : decode [0x2A#8] = .ok .rolAcc ∧ decode [0x66#8, 0x10#8] = .ok (.rorZp 0x10#8) := by decide

/-- Control flow: JMP abs is 4C lo hi; JSR is 20 lo hi; BCS is B0 rel; BRK is 00, one byte. -/
theorem test_decode_control : decode [0x4C#8, 0x34#8, 0x12#8] = .ok (.jmpAbs 0x1234#16) ∧
    decode [0x20#8, 0x10#8, 0x80#8] = .ok (.jsr 0x8010#16) ∧ decode [0xB0#8, 0x7F#8] = .ok (.bcs 0x7F#8) ∧
    decodePrefix [0x00#8, 0xAA#8] = .ok (.brk, [0xAA#8]) := by decide

/-- Stack and flags: PHA is 48, PLP is 28, SED is F8. -/
theorem test_decode_stack : decode [0x48#8] = .ok .pha ∧ decode [0x28#8] = .ok .plp ∧ decode [0xF8#8] = .ok .sed := by
  decide

/-- Unofficial: LAX abs,Y is BF lo hi; TAS is 9B lo hi; JAM is F2; SBC #imm is EB imm too. -/
theorem test_decode_unofficial : decode [0xBF#8, 0xFF#8, 0x02#8] = .ok (.laxAbsY 0x02FF#16) ∧
    decode [0x9B#8, 0x00#8, 0x02#8] = .ok (.tasAbsY 0x0200#16) ∧ decode [0xF2#8] = .ok .jamF2 ∧
    decode [0xEB#8, 0x01#8] = .ok (.sbcImmEB 0x01#8) := by decide

/-- A byte sequence that ends inside an instruction is refused by name. -/
theorem test_decode_missing_operand : decode [0x4C#8, 0x34#8] = .error (.missingOperand 0x4C#8) ∧
    decode [] = .error .noBytes := by decide

/-- The table's bit numbering: the second byte of `LDA #0xC0` is bits 15 to 8. -/
theorem test_decodeTableWord : decodeTableWord 16 0xC0A9 = some (.ldaImm 0xC0#8) ∧
    decodeTableWord 8 0x4C = some (.jmpAbs 0x0000#16) := by decide

/-! ## One step, on vectors of spec/95_test_vectors.md -/

/-- The vectors' start: the opcode is at 0x8000, so an executing instruction sees pc = 0x8001. -/
def start : State := { State.reset with pc := 0x8001#16 }

/-- The state after an instruction. -/
def after (i : Instr) (s : State) : Option State :=
  match exec i s with
  | .next t => some t
  | .fault _ => none
  | .refused _ => none

/-- Vector L1. -/
theorem test_lda_zero :
    (after (.ldaImm 0x00#8) { start with a := 0x55#8 }).map (fun t => (t.a, t.p, t.pc, t.ppu.cycle)) =
      some (0x00#8, 0x26#8, 0x8002#16, 6) := by decide

/-- Vector L4. -/
theorem test_lda_zeroPageX_wraps :
    (after (.ldaZpX 0xFF#8) { start with x := 0x02#8, ram := [(0x1, 0x33#8), (0x101, 0x44#8)] }).map (fun t => (t.a, t.pc, t.ppu.cycle)) =
      some (0x33#8, 0x8002#16, 12) := by decide

/-- Vector L5. -/
theorem test_lda_absoluteX_crosses :
    (after (.ldaAbsX 0x02FF#16) { start with x := 0x01#8, ram := [(0x300, 0x99#8)] }).map (fun t => (t.a, t.p, t.pc, t.ppu.cycle)) =
      some (0x99#8, 0xA4#8, 0x8003#16, 15) := by decide

/-- Vector L7. -/
theorem test_lda_indirectX_pointer_wraps :
    (after (.ldaIndX 0xFE#8) { start with x := 0x01#8, ram := [(0x0, 0x02#8), (0xFF, 0x34#8), (0x100, 0x07#8), (0x234, 0xAB#8)] }).map (fun t => (t.a, t.p, t.ppu.cycle)) =
      some (0xAB#8, 0xA4#8, 18) := by decide

/-- Vector L8. -/
theorem test_lda_indirectY_crosses :
    (after (.ldaIndY 0xFF#8) { start with y := 0x10#8, ram := [(0x0, 0x02#8), (0xFF, 0xF8#8), (0x100, 0x07#8), (0x308, 0xCD#8)] }).map (fun t => (t.a, t.p, t.ppu.cycle)) =
      some (0xCD#8, 0xA4#8, 18) := by decide

/-- Vector L9. -/
theorem test_ldx_zeroPageY :
    (after (.ldxZpY 0xF0#8) { start with y := 0x20#8, ram := [(0x10, 0x5A#8)] }).map (fun t => (t.x, t.pc, t.ppu.cycle)) =
      some (0x5A#8, 0x8002#16, 12) := by decide

/-- Vector L10. -/
theorem test_sta_absoluteX :
    (after (.staAbsX 0x02FF#16) { start with a := 0x77#8, x := 0x01#8 }).map (fun t => (memRead t.ram 0x300, t.p, t.ppu.cycle)) =
      some (0x77#8, 0x24#8, 15) := by decide

/-- Vector L11. -/
theorem test_sta_rom_faults :
    (after (.staAbs 0x8000#16) { start with a := 0x77#8 }).map (fun t => (t.status, t.pc, t.ppu.cycle)) =
      some (.faulted (.invalidAccess .writeRom 0x8000#16), 0x8001#16, 0) := by decide

/-- Vector L12. -/
theorem test_txs_no_flag :
    (after (.txs) { start with x := 0x00#8 }).map (fun t => (t.s, t.p, t.ppu.cycle)) =
      some (0x00#8, 0x24#8, 6) := by decide

/-- Vector L13. -/
theorem test_tsx_flags :
    (after (.tsx) { start with s := 0x80#8 }).map (fun t => (t.x, t.p, t.ppu.cycle)) =
      some (0x80#8, 0xA4#8, 6) := by decide

/-- Vector L18. -/
theorem test_stx_mirror :
    (after (.stxAbs 0x0800#16) { start with x := 0x43#8 }).map (fun t => (memRead t.ram 0x0, t.ppu.cycle)) =
      some (0x43#8, 12) := by decide

/-- Vector A1. -/
theorem test_adc_overflow :
    (after (.adcImm 0x50#8) { start with a := 0x50#8 }).map (fun t => (t.a, t.p, t.ppu.cycle)) =
      some (0xA0#8, 0xE4#8, 6) := by decide

/-- Vector A2. -/
theorem test_adc_carry_overflow :
    (after (.adcImm 0x90#8) { start with a := 0xD0#8 }).map (fun t => (t.a, t.p, t.ppu.cycle)) =
      some (0x60#8, 0x65#8, 6) := by decide

/-- Vector A9. -/
theorem test_sbc_borrow_overflow :
    (after (.sbcImm 0xB0#8) { start with a := 0x50#8, p := 0x25#8 }).map (fun t => (t.a, t.p, t.ppu.cycle)) =
      some (0xA0#8, 0xE4#8, 6) := by decide

/-- Vector A11. -/
theorem test_sbc_overflow :
    (after (.sbcImm 0x01#8) { start with a := 0x80#8, p := 0x25#8 }).map (fun t => (t.a, t.p, t.ppu.cycle)) =
      some (0x7F#8, 0x65#8, 6) := by decide

/-- Vector A14. -/
theorem test_adc_ignores_decimal :
    (after (.adcImm 0x01#8) { start with a := 0x09#8, p := 0x2C#8 }).map (fun t => (t.a, t.p, t.ppu.cycle)) =
      some (0x0A#8, 0x2C#8, 6) := by decide

/-- Vector A18. -/
theorem test_cmp_keeps_overflow :
    (after (.cmpImm 0x00#8) { start with a := 0x80#8, p := 0x64#8 }).map (fun t => (t.a, t.p, t.ppu.cycle)) =
      some (0x80#8, 0xE5#8, 6) := by decide

/-- Vector A20. -/
theorem test_cpy_borrow :
    (after (.cpyImm 0xFF#8) { start with y := 0x00#8 }).map (fun t => (t.p, t.ppu.cycle)) =
      some (0x24#8, 6) := by decide

/-- Vector A24. -/
theorem test_bit_from_operand :
    (after (.bitZp 0x10#8) { start with a := 0x01#8, ram := [(0x10, 0xC0#8)] }).map (fun t => (t.a, t.p, t.ppu.cycle)) =
      some (0x01#8, 0xE6#8, 9) := by decide

/-- Vector A26. -/
theorem test_inc_wraps :
    (after (.incZp 0x10#8) { start with p := 0x25#8, ram := [(0x10, 0xFF#8)] }).map (fun t => (memRead t.ram 0x10, t.p, t.ppu.cycle)) =
      some (0x00#8, 0x27#8, 15) := by decide

/-- Vector A29. -/
theorem test_dey_wraps :
    (after (.dey) { start with y := 0x00#8 }).map (fun t => (t.y, t.p, t.ppu.cycle)) =
      some (0xFF#8, 0xA4#8, 6) := by decide

/-- Vector H1. -/
theorem test_asl_accumulator :
    (after (.aslAcc) { start with a := 0x80#8 }).map (fun t => (t.a, t.p, t.ppu.cycle)) =
      some (0x00#8, 0x27#8, 6) := by decide

/-- Vector H3. -/
theorem test_rol_accumulator :
    (after (.rolAcc) { start with a := 0x80#8, p := 0x25#8 }).map (fun t => (t.a, t.p, t.ppu.cycle)) =
      some (0x01#8, 0x25#8, 6) := by decide

/-- Vector H4. -/
theorem test_ror_memory :
    (after (.rorZp 0x10#8) { start with p := 0x25#8, ram := [(0x10, 0x01#8)] }).map (fun t => (memRead t.ram 0x10, t.p, t.ppu.cycle)) =
      some (0x80#8, 0xA5#8, 15) := by decide

/-- Vector H8. -/
theorem test_lsr_clears_negative :
    (after (.lsrAcc) { start with a := 0xFF#8, p := 0xA4#8 }).map (fun t => (t.a, t.p, t.ppu.cycle)) =
      some (0x7F#8, 0x25#8, 6) := by decide

/-- Vector H7. -/
theorem test_asl_rom_faults_before_flags :
    (after (.aslAbs 0x8000#16) start).map (fun t => (t.status, t.p, t.pc, t.ppu.cycle)) =
      some (.faulted (.invalidAccess .writeRom 0x8000#16), 0x24#8, 0x8001#16, 0) := by decide

/-- Vector C2. -/
theorem test_jmp_indirect_page_wrap :
    (after (.jmpInd 0x02FF#16) { start with ram := [(0x200, 0x12#8), (0x2FF, 0x34#8), (0x300, 0x56#8)] }).map (fun t => (t.pc, t.ppu.cycle)) =
      some (0x1234#16, 15) := by decide

/-- Vector C4. -/
theorem test_jsr_pushes :
    (after (.jsr 0x8010#16) start).map (fun t => (memRead t.ram 0x1FD, memRead t.ram 0x1FC, t.s, t.pc, t.ppu.cycle)) =
      some (0x80#8, 0x02#8, 0xFB#8, 0x8010#16, 18) := by decide

/-- Vector C16. -/
theorem test_jsr_stack_wraps :
    (after (.jsr 0x8010#16) { start with s := 0x00#8 }).map (fun t => (memRead t.ram 0x100, memRead t.ram 0x1FF, t.s, t.pc, t.ppu.cycle)) =
      some (0x80#8, 0x02#8, 0xFE#8, 0x8010#16, 18) := by decide

/-- Vector C6. -/
theorem test_rts_wraps :
    (after (.rts) { start with s := 0xFE#8, ram := [(0x100, 0xFF#8), (0x1FF, 0xFF#8)] }).map (fun t => (t.pc, t.s, t.ppu.cycle)) =
      some (0x0000#16, 0x00#8, 18) := by decide

/-- Vector C10. -/
theorem test_bcc_back_across_page :
    (after (.bcc 0x80#8) start).map (fun t => (t.pc, t.ppu.cycle)) =
      some (0x7F82#16, 12) := by decide

/-- Vector C8. -/
theorem test_bne_not_taken :
    (after (.bne 0x02#8) { start with p := 0x26#8 }).map (fun t => (t.pc, t.ppu.cycle)) =
      some (0x8002#16, 6) := by decide

/-- Vector C12. -/
theorem test_bmi_taken_offset_zero :
    (after (.bmi 0x00#8) { start with p := 0xA4#8 }).map (fun t => (t.pc, t.ppu.cycle)) =
      some (0x8002#16, 9) := by decide

/-- Vector C17. -/
theorem test_rti_restores :
    (after (.rti) { start with s := 0xFA#8, ram := [(0x1FB, 0xE3#8), (0x1FC, 0x34#8), (0x1FD, 0x80#8)] }).map (fun t => (t.p, t.pc, t.s, t.ppu.cycle)) =
      some (0xE3#8, 0x8034#16, 0xFD#8, 18) := by decide

/-- Vector C19. -/
theorem test_brk_masked_stops :
    (after (.brk) start).map (fun t => (t.status, t.pc, t.s, t.ppu.cycle)) =
      some (.stopped .brk, 0x8001#16, 0xFD#8, 0) := by decide

/-- Vector C20. -/
theorem test_brk_traps :
    (after (.brk) { start with p := 0xA1#8, rom := { Rom.blank with prg := [(0x7FFF, 0x90#8)] } }).map (fun t => ((memRead t.ram 0x1FD, memRead t.ram 0x1FC, memRead t.ram 0x1FB), t.s, t.p, t.pc, t.ppu.cycle)) =
      some ((0x80#8, 0x01#8, 0xB1#8), 0xFA#8, 0xA5#8, 0x9000#16, 21) := by decide

/-- Vector K6. -/
theorem test_pha_wraps :
    (after (.pha) { start with s := 0x00#8, a := 0x77#8 }).map (fun t => (memRead t.ram 0x100, t.s, t.ppu.cycle)) =
      some (0x77#8, 0xFF#8, 9) := by decide

/-- Vector K3. -/
theorem test_php_copy :
    (after (.php) { start with p := 0xA5#8 }).map (fun t => (memRead t.ram 0x1FD, t.s, t.p, t.ppu.cycle)) =
      some (0xB5#8, 0xFC#8, 0xA5#8, 9) := by decide

/-- Vector K4. -/
theorem test_plp_breaks :
    (after (.plp) { start with s := 0xFC#8, ram := [(0x1FD, 0xFF#8)] }).map (fun t => (t.p, t.s, t.ppu.cycle)) =
      some (0xEF#8, 0xFD#8, 12) := by decide

/-- Vector K7. -/
theorem test_pla_flags :
    (after (.pla) { start with s := 0xFF#8, ram := [(0x100, 0x80#8)] }).map (fun t => (t.a, t.s, t.p, t.ppu.cycle)) =
      some (0x80#8, 0x00#8, 0xA4#8, 12) := by decide

/-- Vector U1. -/
theorem test_slo :
    (after (.sloZp 0x10#8) { start with a := 0x01#8, ram := [(0x10, 0x81#8)] }).map (fun t => (memRead t.ram 0x10, t.a, t.p, t.ppu.cycle)) =
      some (0x02#8, 0x03#8, 0x25#8, 15) := by decide

/-- Vector U2. -/
theorem test_rla :
    (after (.rlaZp 0x10#8) { start with a := 0xFF#8, p := 0x25#8, ram := [(0x10, 0x40#8)] }).map (fun t => (memRead t.ram 0x10, t.a, t.p, t.ppu.cycle)) =
      some (0x81#8, 0x81#8, 0xA4#8, 15) := by decide

/-- Vector U4. -/
theorem test_rra_carry_of_rotate :
    (after (.rraZp 0x10#8) { start with a := 0x10#8, p := 0x25#8, ram := [(0x10, 0x01#8)] }).map (fun t => (memRead t.ram 0x10, t.a, t.p, t.ppu.cycle)) =
      some (0x80#8, 0x91#8, 0xA4#8, 15) := by decide

/-- Vector U5. -/
theorem test_dcp :
    (after (.dcpZp 0x10#8) { start with a := 0x40#8, ram := [(0x10, 0x41#8)] }).map (fun t => (memRead t.ram 0x10, t.p, t.ppu.cycle)) =
      some (0x40#8, 0x27#8, 15) := by decide

/-- Vector U6. -/
theorem test_isb :
    (after (.isbZp 0x10#8) { start with a := 0x10#8, p := 0x25#8, ram := [(0x10, 0x0F#8)] }).map (fun t => (memRead t.ram 0x10, t.a, t.p, t.ppu.cycle)) =
      some (0x10#8, 0x00#8, 0x27#8, 15) := by decide

/-- Vector U7. -/
theorem test_sax :
    (after (.saxZp 0x10#8) { start with a := 0xF0#8, x := 0x3C#8 }).map (fun t => (memRead t.ram 0x10, t.p, t.ppu.cycle)) =
      some (0x30#8, 0x24#8, 9) := by decide

/-- Vector U9. -/
theorem test_lax_crosses :
    (after (.laxAbsY 0x02FF#16) { start with a := 0x01#8, x := 0x01#8, y := 0x01#8 }).map (fun t => (t.a, t.x, t.p, t.ppu.cycle)) =
      some (0x00#8, 0x00#8, 0x26#8, 15) := by decide

/-- Vector U14. -/
theorem test_arr_overflow :
    (after (.arrImm 0xFF#8) { start with a := 0x40#8 }).map (fun t => (t.a, t.p, t.ppu.cycle)) =
      some (0x20#8, 0x64#8, 6) := by decide

/-- Vector U16. -/
theorem test_axs_borrow :
    (after (.axsImm 0x40#8) { start with a := 0xFF#8, x := 0x20#8, p := 0x65#8 }).map (fun t => (t.x, t.p, t.ppu.cycle)) =
      some (0xE0#8, 0xE4#8, 6) := by decide

/-- Vector U18. -/
theorem test_las :
    (after (.lasAbsY 0x0300#16) { start with s := 0xF0#8, ram := [(0x300, 0x3C#8)] }).map (fun t => (t.a, t.x, t.s, t.p, t.ppu.cycle)) =
      some (0x30#8, 0x30#8, 0x30#8, 0x24#8, 12) := by decide

/-- Vector U25. -/
theorem test_ahx_indirectY :
    (after (.ahxIndY 0x20#8) { start with a := 0xFF#8, x := 0xFF#8, y := 0x01#8, ram := [(0x21, 0x06#8)] }).map (fun t => (memRead t.ram 0x601, t.ppu.cycle)) =
      some (0x07#8, 18) := by decide

/-- Vector U24. -/
theorem test_tas :
    (after (.tasAbsY 0x0200#16) { start with a := 0xF3#8, x := 0x3F#8 }).map (fun t => (t.s, memRead t.ram 0x200, t.ppu.cycle)) =
      some (0x33#8, 0x03#8, 15) := by decide

/-- Vector U29. -/
theorem test_nop_reads_status :
    (after (.nopAbs0C 0x2002#16) { start with ppu := { Ppu.powerOn with status := 0x80#8, w := true } }).map (fun t => (t.ppu.status, t.ppu.w, t.pc, t.ppu.cycle)) =
      some (0x00#8, false, 0x8003#16, 12) := by decide

/-- Vector U31. -/
theorem test_jam :
    (after (.jamF2) { start with a := 0x12#8, p := 0xE5#8 }).map (fun t => (t.status, t.a, t.p, t.pc, t.ppu.cycle)) =
      some (.stopped .jam, 0x12#8, 0xE5#8, 0x8001#16, 0) := by decide

/-- Vector N1: a pending NMI is entered, then the handler's first instruction runs in the same step. -/
theorem test_nmi_then_instruction :
    (match step { State.reset with
        pc := 0x8034#16
        p := 0xA5#8
        ppu := { Ppu.powerOn with nmiPending := true }
        rom := { Rom.blank with prg := [(0x1000, 0xE6#8), (0x1001, 0x10#8), (0x7FFB, 0x90#8)] } } with
      | .next t => some ((t.ram, t.s, t.p, t.pc), t.ppu.nmiPending, t.ppu.scanline, t.ppu.cycle)
      | _ => none) =
    some (([(0x10, 0x01#8), (0x1FB, 0xA5#8), (0x1FC, 0x34#8), (0x1FD, 0x80#8)], 0xFA#8, 0x25#8, 0x9002#16), false, 0, 36) := by
  decide +kernel

/-- `withFetchWord` places an instruction where the very next step runs it. -/
theorem test_withFetchWord :
    (match step (State.reset.withFetchWord 16 0xC0A9) with
      | .next t => some (t.a, t.p, t.pc)
      | _ => none) = some (0xC0#8, 0xA4#8, 0x0002#16) := by decide

/-- Vector Z3: reset leaves a stopped core Running, pc from the vector. -/
theorem test_reset_after_jam :
    let t := resetSignal { start with status := .stopped .jam, a := 0x12#8, rom := { Rom.blank with prg := [(0x7FFD, 0x80#8)] } }
    (t.a, t.s, t.p, t.status, t.pc) = (0x00#8, 0xFD#8, 0x24#8, .running, 0x8000#16) := by decide

/-- The bytes of a sequence of bus accesses: each is a write (address, value). -/
def writes : List (Word × Byte) → State → State
  | [], s => s
  | (addr, v) :: rest, s => writes rest (busWrite addr v s).state

/-- R14 and R50: a 16-bit write of RAM is little-endian, across the end of a mirror too. -/
theorem test_busWrite16 : (busWrite16 0x0FFF#16 0x1234#16 start).state.ram =
    memWrite (memWrite start.ram 0x7FF 0x34#8) 0x000 0x12#8 := by decide

/-- Vectors B1, B2, Q1, Q2: RAM mirrors, register mirrors, the shared write latch. -/
theorem test_bus_and_latch :
    memRead (writes [(0x1FFF#16, 0x99#8)] start).ram 0x7FF = 0x99#8 ∧
    (writes [(0x3FFE#16, 0x40#8), (0x3FFE#16, 0x02#8)] start).ppu.addr = 0x0002#14 ∧
    (writes [(0x2005#16, 0x10#8), (0x2005#16, 0x20#8)] start).ppu.scrollH = 0x20#8 ∧
    (writes [(0x2005#16, 0x11#8), (0x2006#16, 0x22#8)] start).ppu.addr = 0x0022#14 := by decide

/-- Vectors Q4, Q5, Q10: the increment of 32, the palette without an alias, the OAM cursor's wrap. -/
theorem test_ppu_writes :
    (writes [(0x2000#16, 0x04#8), (0x2006#16, 0x20#8), (0x2006#16, 0x00#8), (0x2007#16, 0x01#8), (0x2007#16, 0x02#8)]
      start).ppu.vram = [(0x000, 0x01#8), (0x020, 0x02#8)] ∧
    (writes [(0x2006#16, 0x3F#8), (0x2006#16, 0x10#8), (0x2007#16, 0x2C#8)] start).ppu.pal = [(0x10, 0x2C#8)] ∧
    (writes [(0x2003#16, 0xFF#8), (0x2004#16, 0x12#8), (0x2004#16, 0x34#8)] start).ppu.oam =
      [(0x00, 0x34#8), (0xFF, 0x12#8)] := by decide

/-- Vectors S5, S6: the name-table fold of each mirroring. -/
theorem test_mirroring :
    ntMap .horizontal 0x2405 = 0x005 ∧ ntMap .horizontal 0x2805 = 0x405 ∧
    ntMap .vertical 0x2405 = 0x405 ∧ ntMap .vertical 0x2805 = 0x005 := by decide

/-- Vector T2: Control bit 7 rising inside vblank requests the NMI. -/
theorem test_nmi_edge :
    (ctrlWrite 0x80#8 { Ppu.powerOn with status := 0x80#8 }).nmiPending = true ∧
    (ctrlWrite 0x80#8 { Ppu.powerOn with status := 0x80#8, ctrl := 0x80#8 }).nmiPending = false := by decide

/-! ## Witnesses: a concrete state and operands that meet each obligation's hypotheses, clause by clause

`Witness.base` executes at pc 0x8001 with the default parameters, its RAM blank. -/

namespace Witness

/-- The state the witnesses run in: X and Y at 1, the pointer bytes of page 0 blank. -/
def base : State := { State.reset with pc := 0x8001#16, a := 0xFF#8, x := 0x01#8, y := 0x01#8 }

/-- SetZNWritesOnlyZeroAndNegative: a flag that is neither Z nor N. -/
theorem witness_setZN : Flag.c ≠ .z ∧ Flag.c ≠ .n := by decide

/-- An immediate operand is read. -/
theorem reads_immediate (v : Byte) : ReadsOperand (.immediate v) base v false base := .inl ⟨rfl, rfl, rfl⟩

/-- The last absolute,Y address of a page is crossed into the next one and read: 0x02FF + 1. -/
theorem reads_absoluteY : ReadsOperand (.memory (.absoluteY 0x02FF#16)) base 0x00#8 true base :=
  .inr ⟨_, ⟨0x02FF#16, 0x0300#16, true⟩, base, rfl, by decide, by decide, rfl⟩

/-- Page 0's last byte is read. -/
theorem reads_zeroPage : ReadsOperand (.memory (.zeroPage 0xFF#8)) base 0x00#8 false base :=
  .inr ⟨_, ⟨0x00FF#16, 0x00FF#16, false⟩, base, rfl, by decide, by decide, rfl⟩

/-- LoadsWriteTheOperandByteAndSetZN: each mnemonic with an operand that is read. -/
theorem witness_loads :
    ((Instr.ldaImm 0x00#8).mnemonic = .lda ∧ ReadsOperand (Instr.ldaImm 0x00#8).operand base 0x00#8 false base) ∧
    ((Instr.ldaAbsY 0x02FF#16).mnemonic = .lda ∧
      ReadsOperand (Instr.ldaAbsY 0x02FF#16).operand base 0x00#8 true base) ∧
    ((Instr.ldxImm 0xFF#8).mnemonic = .ldx ∧ ReadsOperand (Instr.ldxImm 0xFF#8).operand base 0xFF#8 false base) ∧
    ((Instr.ldyZp 0xFF#8).mnemonic = .ldy ∧ ReadsOperand (Instr.ldyZp 0xFF#8).operand base 0x00#8 false base) ∧
    ((Instr.laxAbsY 0x02FF#16).mnemonic = .lax ∧
      ReadsOperand (Instr.laxAbsY 0x02FF#16).operand base 0x00#8 true base) ∧
    ((Instr.lasAbsY 0x02FF#16).mnemonic = .las ∧
      ReadsOperand (Instr.lasAbsY 0x02FF#16).operand base 0x00#8 true base) :=
  ⟨⟨rfl, reads_immediate _⟩, ⟨rfl, reads_absoluteY⟩, ⟨rfl, reads_immediate _⟩, ⟨rfl, reads_zeroPage⟩,
    ⟨rfl, reads_absoluteY⟩, ⟨rfl, reads_absoluteY⟩⟩

/-- AddAndSubtractWriteAAndFourFlags: ADC, SBC and the unofficial SBC. -/
theorem witness_addSub :
    ((Instr.adcAbsY 0x02FF#16).mnemonic = .adc ∧
      ReadsOperand (Instr.adcAbsY 0x02FF#16).operand base 0x00#8 true base) ∧
    ((Instr.sbcImm 0xFF#8).mnemonic = .sbc ∧ ReadsOperand (Instr.sbcImm 0xFF#8).operand base 0xFF#8 false base) ∧
    ((Instr.sbcImmEB 0x80#8).mnemonic = .sbc ∧
      ReadsOperand (Instr.sbcImmEB 0x80#8).operand base 0x80#8 false base) :=
  ⟨⟨rfl, reads_absoluteY⟩, ⟨rfl, reads_immediate _⟩, ⟨rfl, reads_immediate _⟩⟩

/-- CompareWritesOnlyCarryZeroNegative: each of the three registers. -/
theorem witness_compare :
    (ReadsOperand (Instr.cmpAbsY 0x02FF#16).operand base 0x00#8 true base ∧
      (Instr.cmpAbsY 0x02FF#16).mnemonic = .cmp ∧ 0xFF#8 = base.a) ∧
    (ReadsOperand (Instr.cpxZp 0xFF#8).operand base 0x00#8 false base ∧
      (Instr.cpxZp 0xFF#8).mnemonic = .cpx ∧ 0x01#8 = base.x) ∧
    (ReadsOperand (Instr.cpyImm 0xFF#8).operand base 0xFF#8 false base ∧
      (Instr.cpyImm 0xFF#8).mnemonic = .cpy ∧ 0x01#8 = base.y) :=
  ⟨⟨reads_absoluteY, rfl, rfl⟩, ⟨reads_zeroPage, rfl, rfl⟩, ⟨reads_immediate _, rfl, rfl⟩⟩

/-- LogicWritesAAndSetsZN: each of the three. -/
theorem witness_logic :
    (ReadsOperand (Instr.andAbsY 0x02FF#16).operand base 0x00#8 true base ∧
      (Instr.andAbsY 0x02FF#16).mnemonic = .and ∧ 0x00#8 = base.a &&& 0x00#8) ∧
    (ReadsOperand (Instr.oraZp 0xFF#8).operand base 0x00#8 false base ∧
      (Instr.oraZp 0xFF#8).mnemonic = .ora ∧ 0xFF#8 = base.a ||| 0x00#8) ∧
    (ReadsOperand (Instr.eorImm 0x0F#8).operand base 0x0F#8 false base ∧
      (Instr.eorImm 0x0F#8).mnemonic = .eor ∧ 0xF0#8 = base.a ^^^ 0x0F#8) :=
  ⟨⟨reads_absoluteY, rfl, by decide⟩, ⟨reads_zeroPage, rfl, by decide⟩, ⟨reads_immediate _, rfl, by decide⟩⟩

/-- BitTestsWithoutWritingA. -/
theorem witness_bit : (Instr.bitZp 0xFF#8).mnemonic = .bit ∧
    ReadsOperand (Instr.bitZp 0xFF#8).operand base 0x00#8 false base := ⟨rfl, reads_zeroPage⟩

/-- ImmediateCombinationsRunTheirBuildingBlocks: each of the four, ARR with its rotated byte. -/
theorem witness_immediateCombinations :
    ((Instr.ancImm2B 0x80#8).operand = .immediate 0x80#8 ∧ (Instr.ancImm2B 0x80#8).mnemonic = .anc) ∧
    ((Instr.alrImm 0x01#8).operand = .immediate 0x01#8 ∧ (Instr.alrImm 0x01#8).mnemonic = .alr) ∧
    ((Instr.arrImm 0xFF#8).operand = .immediate 0xFF#8 ∧ (Instr.arrImm 0xFF#8).mnemonic = .arr ∧
      0x7F#8 = ((base.a &&& 0xFF#8) >>> 1 ||| if getFlag .c base.p then 0x80#8 else 0x00#8)) ∧
    ((Instr.axsImm 0x00#8).operand = .immediate 0x00#8 ∧ (Instr.axsImm 0x00#8).mnemonic = .axs) := by decide

/-- UnstableLoadsFollowTheirMagicFormulas: both, with the default parameters. -/
theorem witness_unstableLoads :
    ((Instr.xaaImm 0x0F#8).operand = .immediate 0x0F#8 ∧ (Instr.xaaImm 0x0F#8).mnemonic = .xaa ∧
      0x01#8 = ((base.a ||| base.cfg.xaaMagic) &&& base.x &&& 0x0F#8) ∧ base.cfg.xaaMagic = 0xFF#8) ∧
    ((Instr.lxaImm 0x55#8).operand = .immediate 0x55#8 ∧ (Instr.lxaImm 0x55#8).mnemonic = .lxa ∧
      0x55#8 = ((base.a ||| base.cfg.lxaMagic) &&& 0x55#8) ∧ base.cfg.lxaMagic = 0xFF#8) := by decide

/-- NopReadsItsOperandAndChangesNothingElse: an implied NOP, an immediate one, and one that reads memory. -/
theorem witness_nop :
    (Instr.nopImpFA.mnemonic = .nop ∧ Instr.nopImpFA.operand = .implied) ∧
    ((Instr.nopImm80 0x12#8).mnemonic = .nop ∧
      ReadsOperand (Instr.nopImm80 0x12#8).operand base 0x12#8 false base) ∧
    ((Instr.nopZp04 0xFF#8).mnemonic = .nop ∧ ReadsOperand (Instr.nopZp04 0xFF#8).operand base 0x00#8 false base) :=
  ⟨⟨rfl, rfl⟩, ⟨rfl, reads_immediate _⟩, ⟨rfl, reads_zeroPage⟩⟩

/-- The last RAM address, 0x1FFF, is stored to through absolute mode. -/
theorem stores_absolute (v : Byte) (w : State) :
    StoresOperand (.memory (.absolute 0x1FFF#16)) w ⟨0x1FFF#16, 0x1FFF#16, false⟩ w v w
      { w with ram := memWrite w.ram 0x7FF v } := ⟨_, rfl, rfl, busWrite_ram w v (by decide)⟩

/-- StoresWriteTheirRegister: each of the four. -/
theorem witness_stores :
    (∃ v u, ((Instr.staAbs 0x1FFF#16).mnemonic = .sta ∧ v = base.a) ∧
      StoresOperand (Instr.staAbs 0x1FFF#16).operand base ⟨0x1FFF#16, 0x1FFF#16, false⟩ base v base u) ∧
    (∃ v u, ((Instr.stxAbs 0x1FFF#16).mnemonic = .stx ∧ v = base.x) ∧
      StoresOperand (Instr.stxAbs 0x1FFF#16).operand base ⟨0x1FFF#16, 0x1FFF#16, false⟩ base v base u) ∧
    (∃ v u, ((Instr.styAbs 0x1FFF#16).mnemonic = .sty ∧ v = base.y) ∧
      StoresOperand (Instr.styAbs 0x1FFF#16).operand base ⟨0x1FFF#16, 0x1FFF#16, false⟩ base v base u) ∧
    (∃ v u, ((Instr.saxAbs 0x1FFF#16).mnemonic = .sax ∧ v = base.a &&& base.x) ∧
      StoresOperand (Instr.saxAbs 0x1FFF#16).operand base ⟨0x1FFF#16, 0x1FFF#16, false⟩ base v base u) :=
  ⟨⟨_, _, ⟨rfl, rfl⟩, stores_absolute _ _⟩, ⟨_, _, ⟨rfl, rfl⟩, stores_absolute _ _⟩,
    ⟨_, _, ⟨rfl, rfl⟩, stores_absolute _ _⟩, ⟨_, _, ⟨rfl, rfl⟩, stores_absolute _ _⟩⟩

/-- An indexed store whose base is the last byte of page 2: the effective address is 0x0300. -/
theorem stores_indexed (v : Byte) (s w : State) (hx : s.x = 0x01#8) (hy : s.y = 0x01#8) :
    (StoresOperand (.memory (.absoluteX 0x02FF#16)) s ⟨0x02FF#16, 0x0300#16, true⟩ s v w
      { w with ram := memWrite w.ram 0x300 v }) ∧
    StoresOperand (.memory (.absoluteY 0x02FF#16)) s ⟨0x02FF#16, 0x0300#16, true⟩ s v w
      { w with ram := memWrite w.ram 0x300 v } := by
  refine ⟨⟨_, rfl, ?_, busWrite_ram w v (by decide)⟩, ⟨_, rfl, ?_, busWrite_ram w v (by decide)⟩⟩
  · have hpl : indexedPlace 0x02FF#16 0x01#8 = ⟨0x02FF#16, 0x0300#16, true⟩ := by decide
    simp only [resolve, hx, hpl]
  · have hpl : indexedPlace 0x02FF#16 0x01#8 = ⟨0x02FF#16, 0x0300#16, true⟩ := by decide
    simp only [resolve, hy, hpl]

/-- HighByteStoresMaskWithBasePlusOne: each of the four. -/
theorem witness_highByteStores :
    (∃ v u, (Instr.ahxAbsY 0x02FF#16).mnemonic = .ahx ∧ v = base.a &&& base.x &&& (highByte 0x02FF#16 + 1#8) ∧
      StoresOperand (Instr.ahxAbsY 0x02FF#16).operand base ⟨0x02FF#16, 0x0300#16, true⟩ base v base u) ∧
    (∃ v u, (Instr.shyAbsX 0x02FF#16).mnemonic = .shy ∧ v = base.y &&& (highByte 0x02FF#16 + 1#8) ∧
      StoresOperand (Instr.shyAbsX 0x02FF#16).operand base ⟨0x02FF#16, 0x0300#16, true⟩ base v base u) ∧
    (∃ v u, (Instr.shxAbsY 0x02FF#16).mnemonic = .shx ∧ v = base.x &&& (highByte 0x02FF#16 + 1#8) ∧
      StoresOperand (Instr.shxAbsY 0x02FF#16).operand base ⟨0x02FF#16, 0x0300#16, true⟩ base v base u) ∧
    (∃ v w' u, (Instr.tasAbsY 0x02FF#16).mnemonic = .tas ∧ w' = { base with s := base.a &&& base.x } ∧
      v = base.a &&& base.x &&& (highByte 0x02FF#16 + 1#8) ∧
      StoresOperand (Instr.tasAbsY 0x02FF#16).operand base ⟨0x02FF#16, 0x0300#16, true⟩ base v w' u) :=
  ⟨⟨_, _, rfl, rfl, (stores_indexed _ base base rfl rfl).2⟩, ⟨_, _, rfl, rfl, (stores_indexed _ base base rfl rfl).1⟩,
    ⟨_, _, rfl, rfl, (stores_indexed _ base base rfl rfl).2⟩,
    ⟨_, _, _, rfl, rfl, rfl, (stores_indexed _ base _ rfl rfl).2⟩⟩

/-- Page 0's last byte is modified. -/
theorem modifies_zeroPage (r : Byte) :
    ModifiesOperand (.memory (.zeroPage 0xFF#8)) base 0x00#8 base r { base with ram := memWrite base.ram 0x0FF r } :=
  ⟨_, ⟨0x00FF#16, 0x00FF#16, false⟩, base, rfl, by decide, by decide, busWrite_ram base r (by decide)⟩

/-- IncrementAndDecrementMemoryWrap: DEC of 0x00 wraps. -/
theorem witness_incDec :
    (∃ r u, ((Instr.incZp 0xFF#8).mnemonic = .inc ∧ r = 0x00#8 + 1#8) ∧
      ModifiesOperand (Instr.incZp 0xFF#8).operand base 0x00#8 base r u) ∧
    (∃ r u, ((Instr.decZp 0xFF#8).mnemonic = .dec ∧ r = 0x00#8 - 1#8) ∧
      ModifiesOperand (Instr.decZp 0xFF#8).operand base 0x00#8 base r u) :=
  ⟨⟨_, _, ⟨rfl, rfl⟩, modifies_zeroPage _⟩, ⟨_, _, ⟨rfl, rfl⟩, modifies_zeroPage _⟩⟩

/-- ShiftsMoveOneBitThroughCarry: each shift of A = 0xFF (bit 7 and bit 0 set) and of a memory byte. -/
theorem witness_shifts :
    (Instr.aslAcc.mnemonic = .asl ∧ Instr.aslAcc.operand = .accumulator ∧ 0xFE#8 = base.a <<< 1 ∧
      true = base.a.getLsbD 7) ∧
    (Instr.lsrAcc.mnemonic = .lsr ∧ Instr.lsrAcc.operand = .accumulator ∧ 0x7F#8 = base.a >>> 1 ∧
      true = base.a.getLsbD 0) ∧
    (Instr.rolAcc.mnemonic = .rol ∧ Instr.rolAcc.operand = .accumulator ∧ false = getFlag .c base.p ∧
      0xFE#8 = (base.a <<< 1 ||| if false then 0x01#8 else 0x00#8)) ∧
    (Instr.rorAcc.mnemonic = .ror ∧ Instr.rorAcc.operand = .accumulator ∧ false = getFlag .c base.p ∧
      0x7F#8 = (base.a >>> 1 ||| if false then 0x80#8 else 0x00#8)) := by decide

/-- ShiftsMoveOneBitThroughCarry, the memory clause: each of the four on a byte 0x00. -/
theorem witness_shiftsMemory :
    (∃ r u, r = 0x00#8 <<< 1 ∧ (Instr.aslZp 0xFF#8).mnemonic = .asl ∧
      ModifiesOperand (Instr.aslZp 0xFF#8).operand base 0x00#8 base r u) ∧
    (∃ r u, r = 0x00#8 >>> 1 ∧ (Instr.lsrZp 0xFF#8).mnemonic = .lsr ∧
      ModifiesOperand (Instr.lsrZp 0xFF#8).operand base 0x00#8 base r u) ∧
    (∃ r u, (r = 0x00#8 <<< 1 ||| if getFlag .c base.p then 0x01#8 else 0x00#8) ∧
      (Instr.rolZp 0xFF#8).mnemonic = .rol ∧ ModifiesOperand (Instr.rolZp 0xFF#8).operand base 0x00#8 base r u) ∧
    (∃ r u, (r = 0x00#8 >>> 1 ||| if getFlag .c base.p then 0x80#8 else 0x00#8) ∧
      (Instr.rorZp 0xFF#8).mnemonic = .ror ∧ ModifiesOperand (Instr.rorZp 0xFF#8).operand base 0x00#8 base r u) :=
  ⟨⟨_, _, rfl, rfl, modifies_zeroPage _⟩, ⟨_, _, rfl, rfl, modifies_zeroPage _⟩,
    ⟨_, _, rfl, rfl, modifies_zeroPage _⟩, ⟨_, _, rfl, rfl, modifies_zeroPage _⟩⟩

/-- CombinedModifyInstructionsRunBothBlocks: each of the six. -/
theorem witness_combined :
    (∃ r u, ModifiesOperand (Instr.sloZp 0xFF#8).operand base 0x00#8 base r u ∧
      (Instr.sloZp 0xFF#8).mnemonic = .slo ∧ r = 0x00#8 <<< 1) ∧
    (∃ r u, ModifiesOperand (Instr.rlaZp 0xFF#8).operand base 0x00#8 base r u ∧
      (Instr.rlaZp 0xFF#8).mnemonic = .rla ∧ r = (0x00#8 <<< 1 ||| if getFlag .c base.p then 0x01#8 else 0x00#8)) ∧
    (∃ r u, ModifiesOperand (Instr.sreZp 0xFF#8).operand base 0x00#8 base r u ∧
      (Instr.sreZp 0xFF#8).mnemonic = .sre ∧ r = 0x00#8 >>> 1) ∧
    (∃ r u, ModifiesOperand (Instr.rraZp 0xFF#8).operand base 0x00#8 base r u ∧
      (Instr.rraZp 0xFF#8).mnemonic = .rra ∧ (r = (0x00#8 >>> 1 ||| if getFlag .c base.p then 0x80#8 else 0x00#8)) ∧
      ∃ sum, sum = addCore u.a r ((0x00#8 : Byte).getLsbD 0).toNat) ∧
    (∃ r u, ModifiesOperand (Instr.dcpZp 0xFF#8).operand base 0x00#8 base r u ∧
      (Instr.dcpZp 0xFF#8).mnemonic = .dcp ∧ r = 0x00#8 - 1#8) ∧
    (∃ r u, ModifiesOperand (Instr.isbZp 0xFF#8).operand base 0x00#8 base r u ∧
      (Instr.isbZp 0xFF#8).mnemonic = .isb ∧ r = 0x00#8 + 1#8 ∧
      ∃ sum, sum = addCore u.a (r ^^^ 0xFF#8) (getFlag .c u.p).toNat) :=
  ⟨⟨_, _, modifies_zeroPage _, rfl, rfl⟩, ⟨_, _, modifies_zeroPage _, rfl, rfl⟩, ⟨_, _, modifies_zeroPage _, rfl, rfl⟩,
    ⟨_, _, modifies_zeroPage _, rfl, rfl, _, rfl⟩, ⟨_, _, modifies_zeroPage _, rfl, rfl⟩,
    ⟨_, _, modifies_zeroPage _, rfl, rfl, _, rfl⟩⟩

/-- FlagInstructionsWriteOneFlag: the first and the last of the list, and a flag other than theirs. -/
theorem witness_flags :
    ((Instr.clc, Flag.c, false) ∈ [(Instr.clc, Flag.c, false), (.sec, .c, true), (.cli, .i, false), (.sei, .i, true),
      (.cld, .d, false), (.sed, .d, true), (.clv, .v, false)]) ∧
    ((Instr.clv, Flag.v, false) ∈ [(Instr.clc, Flag.c, false), (.sec, .c, true), (.cli, .i, false), (.sei, .i, true),
      (.cld, .d, false), (.sed, .d, true), (.clv, .v, false)]) ∧ Flag.z ≠ .c := by decide

/-- BranchesFollowTheirFlag: at opaddr 0xFFFE, where the next address wraps to 0; BCC is taken and BCS is not. -/
theorem witness_branches :
    let s : State := { base with pc := 0xFFFF#16 }
    s.pc = 0xFFFE#16 + 1#16 ∧ 0x007F#16 = 0xFFFE#16 + 2#16 + (0x7F#8 : Byte).signExtend 16 ∧
    0xFF80#16 = 0xFFFE#16 + 2#16 + (0x80#8 : Byte).signExtend 16 ∧ getFlag .c s.p = false ∧
    getFlag .c s.p ≠ true := by decide

/-- The eight branches with their flags are the list's members. -/
theorem witness_branchList (rel : Byte) :
    ∀ b ∈ [(Instr.bcc rel, Flag.c, false), (.bvs rel, .v, true)],
      b ∈ [(Instr.bcc rel, Flag.c, false), (.bcs rel, .c, true), (.beq rel, .z, true), (.bne rel, .z, false),
        (.bmi rel, .n, true), (.bpl rel, .n, false), (.bvc rel, .v, false), (.bvs rel, .v, true)] := by
  simp

/-- JumpIndirectWrapsInsideThePage: a pointer at the end of its page, and one that is not. -/
theorem witness_jumpIndirect :
    (lowByte 0x02FF#16 = 0xFF#8 ∧ busRead 0x02FF#16 base = .ok 0x00#8 base ∧
      busRead (0x02FF#16 &&& 0xFF00#16) base = .ok 0x00#8 base) ∧
    (lowByte 0x02FE#16 ≠ 0xFF#8 ∧ busRead 0x02FE#16 base = .ok 0x00#8 base ∧
      busRead (0x02FE#16 + 1#16) base = .ok 0x00#8 base) := by decide

/-- JsrPushesItsLastByteAddress, ReturnsPullTheirFrame, StackInstructionsPushAndPullOneByte and
JsrThenRtsReturnsAfterTheCall: the stack page, the pc, and a pulled byte. -/
theorem witness_stackPage : base.cfg.stackBase = 0x0100#16 ∧ base.pc = 0x8000#16 + 1#16 ∧
    0x00#8 = memRead base.ram (0x100 + (base.s + 1#8).toNat) := by decide

/-- The reset state, whose fields the next witnesses vary, meets the invariant. -/
theorem inv_base : base.Inv where
  ram := ⟨rfl, rfl⟩
  vram := ⟨rfl, rfl⟩
  oam := ⟨rfl, rfl⟩
  pal := ⟨rfl, rfl⟩
  prg := ⟨rfl, rfl⟩
  chr := ⟨rfl, rfl⟩
  breakClear := by decide
  break2Set := by decide
  cycle := Nat.zero_le _
  scanline := Nat.zero_le _
  statusLow := by decide

/-- PushThenPullReturnsTheWord and JsrThenRtsReturnsAfterTheCall, from a stack pointer that wraps. -/
theorem witness_pushPull : State.Inv { base with s := 0x00#8 } ∧
    (State.cfg { base with s := 0x00#8 }).stackBase = 0x0100#16 ∧
    ∃ t, exec (.jsr 0x1234#16) { base with s := 0x00#8 } = .next t :=
  ⟨{ inv_base with }, rfl, by rw [Laws.exec_eq_run]; exact Laws.run_next _ _ _ _⟩

/-- BrkTrapsThroughItsVectorWhenEnabled: I clear. -/
theorem witness_brk :
    let s : State := { base with p := 0x20#8 }
    s.cfg.stackBase = 0x0100#16 ∧ s.cfg.vecBrk = 0xFFFE#16 ∧ s.cfg.prgBase = 0x8000#16 ∧ getFlag .i s.p = false := by
  decide

/-- JamAndMaskedBrkStopTheCore: a JAM, and BRK with I set. -/
theorem witness_stops : Instr.jam02.mnemonic = .jam ∧ Instr.brk.mnemonic = .brk ∧ getFlag .i base.p = true := by decide

/-- PointerModesReadPageZero: a pointer read at 0xFF and 0x00. -/
theorem witness_pointers :
    0x0000#16 = joinBytes (memRead base.ram ((0xFE#8 + base.x) + 1#8).toNat) (memRead base.ram (0xFE#8 + base.x).toNat) ∧
    0x0000#16 = joinBytes (memRead base.ram (0xFF#8 + 1#8).toNat) (memRead base.ram (0xFF#8 : Byte).toNat) := by decide

/-- BusDecodesRamUnmappedAndRom: the last RAM address, the last one of a 16-bit RAM access, both ends of the unmapped
range, both ends of ROM, and both policies. -/
theorem witness_busMap : base.cfg.prgBase = 0x8000#16 ∧ (0x1FFF#16 : Word).toNat ≤ 0x1FFF ∧
    (0x1FFE#16 : Word).toNat < 0x1FFF ∧ base.cfg.invalidAccess = .fatal ∧
    (State.cfg { base with cfg := { base.cfg with invalidAccess := .ignore } }).invalidAccess = .ignore ∧
    (0x4000 ≤ (0x4000#16 : Word).toNat ∧ (0x4000#16 : Word).toNat ≤ 0x7FFF) ∧
    (0x4000 ≤ (0x7FFF#16 : Word).toNat ∧ (0x7FFF#16 : Word).toNat ≤ 0x7FFF) ∧
    0x8000 ≤ (0x8000#16 : Word).toNat ∧ 0x8000 ≤ (0xFFFF#16 : Word).toNat := by decide

/-- ForbiddenAccessesFaultAndChangeNothingElse: each clause, both policies, at the ends of its range. -/
theorem witness_forbidden :
    base.cfg.invalidAccess = .fatal ∧
    (State.cfg { base with cfg := { base.cfg with invalidAccess := .ignore } }).invalidAccess = .ignore ∧
    0x8000 ≤ (0x8000#16 : Word).toNat ∧
    (InPpuWindow 0x2002#16 ∧ (0x2002#16 : Word).toNat % 8 = 2) ∧
    (InPpuWindow 0x3FFA#16 ∧ (0x3FFA#16 : Word).toNat % 8 = 2) ∧
    (InPpuWindow 0x2000#16 ∧ (0x2000#16 : Word).toNat % 8 ∈ [0, 1, 3, 5, 6]) ∧
    (InPpuWindow 0x3FFE#16 ∧ (0x3FFE#16 : Word).toNat % 8 ∈ [0, 1, 3, 5, 6]) ∧
    (busRead 0x2000#16 base = .raised { base with status := .faulted (.invalidAccess .readWriteOnly 0x2000#16) }) ∧
    (busWrite 0xFFFF#16 0x00#8 base = .raised { base with status := .faulted (.invalidAccess .writeRom 0xFFFF#16) }) := by
  decide

/-- A write to Status raises whatever the byte. -/
theorem statusWrite_raises (r : Byte) : ∃ t, busWrite 0x2002#16 r base = .raised t :=
  ⟨_, (busWrite_ppu base r (by decide)).trans rfl⟩

/-- A write to ROM raises whatever the byte. -/
theorem romWrite_raises (r : Byte) : ∃ t, busWrite 0x8000#16 r base = .raised t := by
  unfold busWrite
  rw [regionOf_rom rfl (by decide)]
  exact ⟨_, rfl⟩

/-- RaisedAccessEndsTheInstruction: a first and a second pointer read of JMP indirect that raise, the second without and
with the wrap inside the page. -/
theorem witness_raisedJump :
    (∃ t, busRead 0x2000#16 base = .raised t) ∧
    (∃ lo u t, busRead 0x2002#16 base = .ok lo u ∧ lowByte 0x2002#16 ≠ 0xFF#8 ∧
      busRead (0x2002#16 + 1#16) u = .raised t) ∧
    (∃ lo u t, busRead 0x20FF#16 base = .ok lo u ∧ lowByte 0x20FF#16 = 0xFF#8 ∧
      busRead (0x20FF#16 &&& 0xFF00#16) u = .raised t) :=
  ⟨⟨_, rfl⟩, ⟨_, _, _, rfl, by decide, rfl⟩, ⟨_, _, _, rfl, by decide, rfl⟩⟩

/-- RaisedAccessEndsTheInstruction: a read that raises, a modify whose read succeeds and whose write back raises, a store
and TAS that raise. -/
theorem witness_raised :
    ((Instr.ldaAbs 0x2000#16).operand = .memory (.absolute 0x2000#16) ∧ (Instr.ldaAbs 0x2000#16).mnemonic.reads = true ∧
      resolve (.absolute 0x2000#16) base = .ok ⟨0x2000#16, 0x2000#16, false⟩ base ∧
      ∃ t, busRead 0x2000#16 base = .raised t) ∧
    ((Instr.incAbs 0x8000#16).operand = .memory (.absolute 0x8000#16) ∧
      (Instr.incAbs 0x8000#16).mnemonic.modifies = true ∧
      busRead 0x8000#16 base = .ok 0x00#8 base ∧ ∀ r, ∃ t, busWrite 0x8000#16 r base = .raised t) ∧
    ((Instr.staAbs 0x2002#16).operand = .memory (.absolute 0x2002#16) ∧ (Instr.staAbs 0x2002#16).mnemonic.stores = true ∧
      (Instr.staAbs 0x2002#16).mnemonic ≠ .tas ∧ ∀ r, ∃ t, busWrite 0x2002#16 r base = .raised t) ∧
    ((Instr.tasAbsY 0x7FFF#16).mnemonic = .tas ∧
      resolve (.absoluteY 0x7FFF#16) base = .ok ⟨0x7FFF#16, 0x8000#16, true⟩ base ∧
      ∀ r, ∃ t, busWrite 0x8000#16 r base = .raised t) :=
  ⟨⟨rfl, rfl, rfl, _, (by decide : busRead 0x2000#16 base =
      .raised { base with status := .faulted (.invalidAccess .readWriteOnly 0x2000#16) })⟩,
    ⟨rfl, rfl, by decide, romWrite_raises⟩, ⟨rfl, rfl, by decide, statusWrite_raises⟩,
    ⟨rfl, by decide, romWrite_raises⟩⟩

/-- StatusReadClearsVblankAndLatch, ControlWriteRaisesNmiOnTheEnableEdge, MaskAndOamAddressWritesStore: the first and the
last mirror of each register. ScrollAndAddressShareOneLatch: the last mirrors, the latch clear and the latch set. -/
theorem witness_registers :
    (InPpuWindow 0x2002#16 ∧ (0x2002#16 : Word).toNat % 8 = 2 ∧ InPpuWindow 0x3FFA#16 ∧ (0x3FFA#16 : Word).toNat % 8 = 2) ∧
    (InPpuWindow 0x2000#16 ∧ (0x2000#16 : Word).toNat % 8 = 0 ∧ InPpuWindow 0x3FF8#16 ∧ (0x3FF8#16 : Word).toNat % 8 = 0) ∧
    (InPpuWindow 0x2001#16 ∧ (0x2001#16 : Word).toNat % 8 = 1 ∧ InPpuWindow 0x3FFB#16 ∧ (0x3FFB#16 : Word).toNat % 8 = 3) ∧
    (InPpuWindow 0x3FFD#16 ∧ (0x3FFD#16 : Word).toNat % 8 = 5 ∧ InPpuWindow 0x3FFE#16 ∧ (0x3FFE#16 : Word).toNat % 8 = 6) ∧
    base.ppu.w = false ∧ ({ base with ppu := { base.ppu with w := true } } : State).ppu.w = true ∧
    base.cfg.invalidAccess = .fatal := by decide

/-- The base state with another PPU address. -/
def atPpuAddr (a : PpuAddr) : State := { base with ppu := { base.ppu with addr := a } }

/-- DataReadLagsByOneExceptThePalette and DataAndOamWritesStoreAndAdvance: the ends of each address range, and the wrap of
the address after 0x3FFF. -/
theorem witness_data :
    (InPpuWindow 0x3FFF#16 ∧ (0x3FFF#16 : Word).toNat % 8 = 7 ∧ InPpuWindow 0x2004#16 ∧ (0x2004#16 : Word).toNat % 8 = 4) ∧
    (atPpuAddr 0x1FFF#14).ppu.addr.toNat < 0x2000 ∧
    (0x2000 ≤ (atPpuAddr 0x2000#14).ppu.addr.toNat ∧ (atPpuAddr 0x3EFF#14).ppu.addr.toNat < 0x3F00) ∧
    0x3F00 ≤ (atPpuAddr 0x3F00#14).ppu.addr.toNat ∧
    (0x0000#14 : PpuAddr) = BitVec.ofNat 14 ((atPpuAddr 0x3FFF#14).ppu.addr.toNat +
      if (atPpuAddr 0x3FFF#14).ppu.ctrl.getLsbD 2 then 32 else 1) := by decide

/-- NameTablesFoldOntoTwoHalves: the last offset of the last table. -/
theorem witness_nameTables : 3 < 4 ∧ 0x3FF < 0x400 := by decide

/-- DataWrittenIsReadBackOneReadLater: the first address, and the last one whose next is below the palette. -/
theorem witness_dataReadBack : base.Inv ∧ base.ppu.w = false ∧
    (0x2000 ≤ (0x2000#14 : PpuAddr).toNat ∧ (0x20#8 : Byte).toNat * 256 + (0x00#8 : Byte).toNat = (0x2000#14 : PpuAddr).toNat) ∧
    ((0x3EFE#14 : PpuAddr).toNat + (if base.ppu.ctrl.getLsbD 2 then 32 else 1) < 0x3F00 ∧
      (0x3E#8 : Byte).toNat * 256 + (0xFE#8 : Byte).toNat = (0x3EFE#14 : PpuAddr).toNat) :=
  ⟨inv_base, by decide, by decide, by decide⟩

/-- FrameCadenceSetsAndClearsVblank: the PPU at power-on, and the pc of an instruction at 0xFFFF while it executes. -/
theorem witness_cadence : State.reset.ppu.cycle = 0 ∧ State.reset.ppu.scanline = 0 ∧
    State.reset.ppu.status = 0x00#8 ∧ State.reset.ppu.nmiPending = false ∧
    0 < 1 ∧ State.reset.pc = 0xFFFF#16 + 1#16 := by decide

/-- R70 and R310: one CPU cycle from the last PPU cycle of a frame is three PPU cycles, and completes the frame. -/
theorem test_tick_completes_frame :
    let t := tick 1 { base with ppu := { base.ppu with cycle := 340, scanline := 261, status := 0x80#8 } }
    (t.ppu.cycle, t.ppu.scanline, t.ppu.status, t.frameDone) = (2, 0, 0x00#8, true) := by decide

/-- The base state with an NMI requested. -/
def nmiBase : State := { base with ppu := { base.ppu with nmiPending := true } }

/-- PendingNmiIsEnteredBeforeTheFetch: with and without a request. -/
theorem witness_nmi : base.ppu.nmiPending = false ∧ nmiBase.ppu.nmiPending = true ∧
    nmiBase.cfg.stackBase = 0x0100#16 ∧ nmiBase.cfg.vecNmi = 0xFFFA#16 ∧ nmiBase.cfg.prgBase = 0x8000#16 := by decide

/-- The state after the NMI entry from `nmiBase`. -/
def nmiEntered : State :=
  { nmiBase with
    ppu := { nmiBase.ppu with nmiPending := false, cycle := 21 }
    ram := [(0x1FB, 0x24#8), (0x1FC, 0x01#8), (0x1FD, 0x80#8)]
    s := 0xFA#8
    pc := 0x0000#16 }

/-- NmiThenRtiResumesTheProgram: the entry from `nmiBase` succeeds. -/
theorem witness_nmiRti : nmiBase.Inv ∧ nmiBase.ppu.nmiPending = true ∧ nmiBase.cfg.stackBase = 0x0100#16 ∧
    nmiBase.cfg.vecNmi = 0xFFFA#16 ∧ nmiBase.cfg.prgBase = 0x8000#16 ∧ nmiBase.cfg.rtiPcAdjust = 0 ∧
    pollNmi nmiBase = .ok () nmiEntered :=
  ⟨{ inv_base with }, rfl, rfl, rfl, rfl, rfl, by decide⟩

/-- The base state about to fetch `LDA #0xC0` from the end of RAM's first mirror. -/
def fetching : State := { base with pc := 0x07FE#16, ram := [(0x7FE, 0xA9#8), (0x7FF, 0xC0#8)] }

/-- StepRunsTheDecodedInstruction: no NMI, two bytes read, decoded. -/
theorem witness_step : fetching.status = .running ∧ pollNmi { fetching with frameDone := false } = .ok () fetching ∧
    readBytes (Instr.ldaImm 0xC0#8).length fetching.pc fetching = .ok [0xA9#8, 0xC0#8] fetching ∧
    decode [0xA9#8, 0xC0#8] = .ok (.ldaImm 0xC0#8) ∧ (Instr.ldaImm 0xC0#8).wf = true := by decide

/-- The base state at a pc, its RAM ending in the opcode of LDA #imm. -/
def fetchingAt (pc : Word) : State := { base with pc := pc, ram := [(0x7FF, 0xA9#8)] }

/-- The base state with an NMI requested and the stack page moved into program ROM. -/
def nmiIntoRom : State := { nmiBase with cfg := { nmiBase.cfg with stackBase := 0x8000#16 } }

/-- FaultingFetchEndsTheStep: an NMI entry whose push raises; an opcode fetched from Control raises; an operand fetched
from Control, after an opcode in the last RAM address, raises. -/
theorem witness_faultingFetch :
    (nmiIntoRom.status = .running ∧ ∃ u, pollNmi { nmiIntoRom with frameDone := false } = .raised u) ∧
    ((fetchingAt 0x2000#16).status = .running ∧
      pollNmi { fetchingAt 0x2000#16 with frameDone := false } = .ok () (fetchingAt 0x2000#16) ∧
      ∃ u, busRead 0x2000#16 (fetchingAt 0x2000#16) = .raised u) ∧
    (busRead 0x1FFF#16 (fetchingAt 0x1FFF#16) = .ok 0xA9#8 (fetchingAt 0x1FFF#16) ∧
      ∃ u, readBytes (operandCount 0xA9#8) (0x1FFF#16 + 1#16) (fetchingAt 0x1FFF#16) = .raised u) :=
  ⟨⟨rfl, _, rfl⟩, ⟨rfl, by decide, _, rfl⟩, ⟨by decide, _, rfl⟩⟩

/-- R305: an opcode fetched from Control faults with pc advanced past the opcode byte. -/
theorem test_opcode_fetch_fault :
    (match step (fetchingAt 0x2000#16) with
      | .next t => some (t.status, t.pc)
      | _ => none) = some (.faulted (.invalidAccess .readWriteOnly 0x2000#16), 0x2001#16) := by decide

/-- TerminalStatesAreLeftByNoStep: a stopped core with an NMI pending. -/
theorem witness_terminal : State.terminal { nmiBase with status := .stopped .jam } := by
  unfold State.terminal; decide

/-- ResetSetsTheBaselineOnly: a faulted core. -/
theorem witness_reset :
    let s : State := { base with status := .faulted (.unknownOpcode 0x02#8 0x8000#16) }
    s.cfg.vecReset = 0xFFFC#16 ∧ s.cfg.prgBase = 0x8000#16 := by decide

/-- PowerOnLoadsTheCartridgeOrRefuses: a cartridge of each kind, and the last index of each memory. -/
theorem witness_powerOn : goodCartridge.wf = true ∧ Cartridge.wf { goodCartridge with mapper := 0x01#8 } = false ∧
    16383 < goodCartridge.prgRom.length ∧ 8191 < 8192 := by
  refine ⟨test_cartridge_accepted, test_cartridge_mapper, ?_, by decide⟩
  simp [goodCartridge, -List.reduceReplicate]

/-- EveryStepKeepsTheInvariant: a step from a state that meets the invariant. -/
theorem witness_stepInv : State.reset.Inv ∧ ∃ t, step State.reset = .next t :=
  ⟨{ inv_base with }, _, rfl⟩

/-- Every instruction answers a next state, as the frames assume. -/
theorem exec_next (i : Instr) (s : State) : ∃ t, exec i s = .next t := by
  rw [Laws.exec_eq_run]
  exact Laws.run_next _ _ _ _

/-- OnlyListedInstructionsWriteEachRegisterAndFlag: an instruction that writes none of them. -/
theorem witness_registerFrame : (∃ t, exec (.staZp 0xFF#8) base = .next t) ∧ (Instr.staZp 0xFF#8).writesA = false ∧
    (Instr.staZp 0xFF#8).writesX = false ∧ (Instr.staZp 0xFF#8).writesY = false ∧ (Instr.staZp 0xFF#8).writesS = false ∧
    ∀ f, (Instr.staZp 0xFF#8).mnemonic.writesFlag f = false :=
  ⟨exec_next _ _, rfl, rfl, rfl, rfl, fun f => by cases f <;> rfl⟩

/-- NonStoringInstructionsLeaveEveryCell: a compare, and a shift of A. -/
theorem witness_nonStoring :
    ((∃ t, exec (.cmpZp 0xFF#8) base = .next t) ∧ (Instr.cmpZp 0xFF#8).mnemonic.stores = false ∧
      (Instr.cmpZp 0xFF#8).mnemonic.modifies = false ∧ (Instr.cmpZp 0xFF#8).mnemonic.pushes = 0) ∧
    ((∃ t, exec .aslAcc base = .next t) ∧ Instr.aslAcc.mnemonic.stores = false ∧ Instr.aslAcc.operand = .accumulator ∧
      Instr.aslAcc.mnemonic.pushes = 0) :=
  ⟨⟨exec_next _ _, rfl, rfl, rfl⟩, ⟨exec_next _ _, rfl, rfl, rfl⟩⟩

/-- StoresChangeOnlyTheAddressedCell: a store and a modify of page 0's last byte, and a cell beside it. -/
theorem witness_storeFrame :
    resolve (.zeroPage 0xFF#8) base = .ok ⟨0x00FF#16, 0x00FF#16, false⟩ base ∧
    storedCell 0x00FF#16 base ≠ some (.ram 0x100) ∧
    ((Instr.staZp 0xFF#8).operand = .memory (.zeroPage 0xFF#8) ∧ (Instr.staZp 0xFF#8).mnemonic.stores = true ∧
      ∃ t, exec (.staZp 0xFF#8) base = .next t) ∧
    ((Instr.incZp 0xFF#8).operand = .memory (.zeroPage 0xFF#8) ∧ (Instr.incZp 0xFF#8).mnemonic.modifies = true ∧
      (∀ v u, busRead 0x00FF#16 base = .ok v u → storedCell 0x00FF#16 u ≠ some (.ram 0x100)) ∧
      ∃ t, exec (.incZp 0xFF#8) base = .next t) := by
  refine ⟨by decide, by decide, ⟨rfl, rfl, exec_next _ _⟩, rfl, rfl, fun v u h => ?_, exec_next _ _⟩
  rw [busRead_ram base (by decide)] at h
  injection h with _ h
  subst h
  decide

/-- PushesChangeOnlyTheStackCells: BRK with a wrapping stack, and a cell that it does not push to. -/
theorem witness_pushFrame :
    let s : State := { base with s := 0x00#8 }
    0 < Instr.brk.mnemonic.pushes ∧ s.cfg.stackBase = 0x0100#16 ∧ s.cfg.vecBrk = 0xFFFE#16 ∧
    s.cfg.prgBase = 0x8000#16 ∧ MemCell.ram 0x1FD ∉ pushedCells Instr.brk.mnemonic.pushes s.s := by decide

/-- PpuRegistersChangeOnlyThroughTheirWindow: an operand right below the window, a pointer right above it. -/
theorem witness_ppuFrame : base.cfg.stackBase = 0x0100#16 ∧ base.cfg.vecBrk = 0xFFFE#16 ∧ base.cfg.prgBase = 0x8000#16 ∧
    ((Instr.ldaAbs 0x1FFF#16).operand = .memory (.absolute 0x1FFF#16) ∧
      resolve (.absolute 0x1FFF#16) base = .ok ⟨0x1FFF#16, 0x1FFF#16, false⟩ base ∧ ¬ InPpuWindow 0x1FFF#16) ∧
    ((Instr.jmpInd 0x4000#16).operand = .indirect 0x4000#16 ∧ ¬ InPpuWindow 0x4000#16 ∧
      ¬ InPpuWindow (indirectHighAddr 0x4000#16)) := by decide

end Witness
end

/-! The scope family (spec/00_scope.md): `SetZN`, power-on, and what no step and no instruction outside the PPU window
changes. -/

namespace Sys2Proof.Proofs

open Sys2Proof Sys2Proof.Machine Sys2Proof.Laws

/-! ## `SetZN` (R14) -/

/-- What each flag of a status byte is after `SetZN`. -/
theorem getFlag_setZN (f : Flag) (v p : Byte) :
    getFlag f (setZN v p) = if f = .n then v.getLsbD 7 else if f = .z then v == 0#8 else getFlag f p := by
  unfold setZN
  rw [getFlag_setFlag, getFlag_setFlag]

/-- Settles O1: `SetZN` writes Z, then N, and a flag write leaves every other flag. -/
theorem setZNWritesOnlyZeroAndNegative : Obligations.SetZNWritesOnlyZeroAndNegative := by
  intro v p
  refine ⟨?_, ?_, fun f hz hn => ?_⟩
  · rw [getFlag_setZN, if_neg (by decide), if_pos rfl]
    rfl
  · rw [getFlag_setZN, if_pos rfl]
  · rw [getFlag_setZN, if_neg hn, if_neg hz]

/-! ## The constants of a run: the cartridge and the parameters (R9, R46) -/

/-- Two states with the same cartridge and the same parameters. -/
def SameConstants (s t : State) : Prop := t.rom = s.rom ∧ t.cfg = s.cfg

theorem sameConstants_kept (s : State) : Kept (SameConstants s) where
  read addr t h := by rw [busRead_state]; exact h
  tick _ _ h := h
  pc _ _ h := h
  status _ _ h := h

theorem sameConstants_keptByWrite (s : State) : KeptByWrite (SameConstants s) := fun addr v t h => by
  rw [busWrite_state]
  exact h

/-- The effect of every instruction writes registers and P only. -/
theorem sameConstants_keptByEffect (s : State) (i : Instr) : (kindOf i.mnemonic).Keeps (SameConstants s) i.operand :=
  kindOf_keeps (fun _ _ _ _ _ _ _ h => h) (fun _ _ h => h) i.mnemonic i.operand

/-- A step keeps the cartridge and the parameters. -/
theorem step_sameConstants {s t : State} (h : step s = .next t) : SameConstants s t :=
  step_keeps (sameConstants_kept s) (sameConstants_keptByWrite s) (fun _ _ h => h) (fun _ h => h) (fun _ h => h)
    (fun _ h => h) (sameConstants_keptByEffect s) ⟨rfl, rfl⟩ h

/-- A step always answers a next state: a raise and a core that is not Running answer one, and so does every
instruction (R44, R120, log 6). -/
theorem step_next (s : State) : ∃ t, step s = .next t := by
  unfold step
  split
  · split
    · rw [exec_eq_run]
      exact run_next _ _ _ _
    · exact ⟨_, rfl⟩
  · exact ⟨_, rfl⟩
  · exact ⟨_, rfl⟩

/-- Settles O55: the cartridge and the parameters are kept by every bus access and by every instruction's effect. -/
theorem noStepChangesCartridgeOrParameters : Obligations.NoStepChangesCartridgeOrParameters := by
  intro s
  obtain ⟨t, ht⟩ := step_next s
  obtain ⟨hrom, hcfg⟩ := step_sameConstants ht
  exact ⟨t, ht, hrom, hcfg⟩

/-! ## Power-on (R9, R26, R380, R381) -/

/-- A cartridge is accepted exactly on the four conditions of R9. -/
theorem cartridge_wf_iff (c : Cartridge) :
    c.wf = true ↔ (c.prgRom.length = 16384 ∨ c.prgRom.length = 32768) ∧ c.mapper = 0x00#8 ∧
      c.chrRom.length = 8192 ∧ c.mirroring ≠ .fourScreen := by
  simp only [Cartridge.wf, Cartridge.prgLengthOk, Cartridge.mapperOk, Cartridge.chrLengthOk, Cartridge.mirroringOk,
    Bool.and_eq_true, Bool.or_eq_true, beq_iff_eq, bne_iff_ne, and_assoc]

/-- A cartridge that fails one of the four tests is refused by name. -/
theorem powerOn_refuses {c : Cartridge} (h : c.wf = false) (cfg : Params) (init : InitMemories) :
    ∃ r, powerOn cfg c init = .refused r := by
  unfold powerOn
  split_ifs with hprg hmapper hchr hmirroring
  · exact ⟨_, rfl⟩
  · exact ⟨_, rfl⟩
  · exact ⟨_, rfl⟩
  · exact ⟨_, rfl⟩
  · simp_all [Cartridge.wf]

/-- An accepted cartridge is loaded and the block is reset. -/
theorem powerOn_accepts {c : Cartridge} (h : c.wf = true) (cfg : Params) (init : InitMemories) :
    powerOn cfg c init = .next (resetSignal (powerOnState cfg (loadRom c) init)) := by
  simp only [Cartridge.wf, Bool.and_eq_true] at h
  obtain ⟨⟨⟨hprg, hmapper⟩, hchr⟩, hmirroring⟩ := h
  simp [powerOn, hprg, hmapper, hchr, hmirroring]

/-- A 16-bit read of program ROM joins two of its bytes, the high byte from one address up (R50, R56). -/
theorem busRead16_rom {s : State} {addr : Word} (hp : s.cfg.prgBase = 0x8000#16) (hlo : 0x8000 ≤ addr.toNat)
    (hhi : addr.toNat < 0xFFFF) :
    busRead16 addr s = .ok (joinBytes (memRead s.rom.prg ((addr.toNat + 1 - 0x8000) % s.rom.prgSize.bytes))
      (memRead s.rom.prg ((addr.toNat - 0x8000) % s.rom.prgSize.bytes))) s := by
  have hnext : (addr + 1#16).toNat = addr.toNat + 1 := by
    rw [BitVec.toNat_add, BitVec.toNat_ofNat]
    omega
  unfold busRead16 busReadPair
  rw [busRead_rom hp hlo, andThen_ok, busRead_rom hp (by omega), andThen_ok, hnext]

/-- The state the reset signal leaves, with the reset vector and the ROM window at their defaults (R380). -/
theorem resetSignal_eq {s : State} (hv : s.cfg.vecReset = 0xFFFC#16) (hp : s.cfg.prgBase = 0x8000#16) :
    resetSignal s =
      { s with
        a := 0x00#8
        x := 0x00#8
        y := 0x00#8
        s := 0xFD#8
        p := 0x24#8
        status := .running
        pc := joinBytes (memRead s.rom.prg (0x7FFD % s.rom.prgSize.bytes))
          (memRead s.rom.prg (0x7FFC % s.rom.prgSize.bytes)) } := by
  unfold resetSignal
  rw [hv, busRead16_rom (addr := 0xFFFC#16)]
  · rfl
  · exact hp
  · decide
  · decide

/-- The size the slot records for an accepted cartridge is its own. -/
theorem loadRom_prgSize {c : Cartridge} (h : c.wf = true) : (loadRom c).prgSize.bytes = c.prgRom.length := by
  obtain ⟨hlen, -⟩ := (cartridge_wf_iff c).1 h
  unfold loadRom
  dsimp only
  rcases hlen with hlen | hlen <;> rw [hlen] <;> rfl

/-- A memory loaded from its first index reads the bytes it was loaded with. -/
theorem memRead_loaded (bs : List Byte) (k : Nat) : memRead (memOfBytes 0 bs) k = bs.getD k 0#8 := by
  have h := memRead_memOfBytes 0 k bs
  rw [Nat.zero_add] at h
  exact h

/-- A memory loaded from a vector reads the vector's elements. -/
theorem memRead_loadedVector {n : Nat} (v : Vector Byte n) (k : Fin n) : memRead (memOfBytes 0 v.toList) k = v[k] := by
  rw [memRead_loaded, List.getD_eq_getElem _ _ (by rw [Vector.length_toList]; exact k.isLt), Vector.getElem_toList]
  rfl

/-- The word at the reset vector of an accepted cartridge, from the cartridge's own bytes (R26). -/
theorem loadRom_resetVector {c : Cartridge} (h : c.wf = true) :
    joinBytes (memRead (loadRom c).prg (0x7FFD % (loadRom c).prgSize.bytes))
        (memRead (loadRom c).prg (0x7FFC % (loadRom c).prgSize.bytes)) =
      joinBytes (c.prgRom.getD (0x7FFD % c.prgRom.length) 0#8) (c.prgRom.getD (0x7FFC % c.prgRom.length) 0#8) := by
  have hread : ∀ k, memRead (loadRom c).prg k = c.prgRom.getD k 0#8 := memRead_loaded c.prgRom
  rw [loadRom_prgSize h, hread, hread]

/-- Settles O48: the reset that ends power-on writes the CPU's registers only, so the memories and the cartridge are
read back as they were loaded. -/
theorem powerOnLoadsTheCartridgeOrRefuses : Obligations.PowerOnLoadsTheCartridgeOrRefuses := by
  intro c init
  refine ⟨cartridge_wf_iff c, fun h => powerOn_refuses h _ init, fun h => ⟨_, powerOn_accepts h _ init, ?_⟩⟩
  rw [resetSignal_eq rfl rfl]
  refine ⟨rfl, rfl, loadRom_prgSize h, fun hm => ?_, fun hm => ?_, loadRom_resetVector h, rfl, rfl, rfl, rfl, rfl,
    fun k _ => memRead_loaded c.prgRom k, fun k _ => memRead_loaded c.chrRom k, memRead_loadedVector init.ram,
    memRead_loadedVector init.vram, memRead_loadedVector init.oam, memRead_loadedVector init.pal, rfl⟩
  · exact if_neg (by rw [hm]; decide)
  · exact if_pos hm

/-! ## Outside its window the PPU only sees time pass (R7, R64, R330) -/

/-- Since state `s` the PPU has changed through `Tick` alone, and the parameters not at all. -/
def OnlyTimePassed (s t : State) : Prop := t.cfg = s.cfg ∧ PpuTimeFrame s.ppu t.ppu

section
variable {s t : State}

theorem OnlyTimePassed.refl (s : State) : OnlyTimePassed s s := ⟨rfl, .refl _⟩

theorem OnlyTimePassed.tick (n : Nat) (h : OnlyTimePassed s t) : OnlyTimePassed s (tick n t) :=
  ⟨h.1, h.2.trans (ppuRun_frame _ _)⟩

theorem OnlyTimePassed.jump (w : Word) (n : Nat) (h : OnlyTimePassed s t) :
    OnlyTimePassed s (Machine.tick n { t with pc := w }) := OnlyTimePassed.tick n h

theorem OnlyTimePassed.complete (k n : Nat) (h : OnlyTimePassed s t) : OnlyTimePassed s (complete k n t) :=
  h.jump _ n

/-- A read outside the window changes no part of the state. -/
theorem busRead_outside {addr : Word} (ha : ¬ InPpuWindow addr) (t : State) : (busRead addr t).state = t := by
  obtain ⟨v, u, hr⟩ | ⟨u, hr⟩ := access_cases (busRead addr t)
  · obtain ⟨-, -, hsame⟩ := busRead_ok hr
    rw [hr, state_ok, hsame ha]
  · exact absurd (busRead_raised hr).1 ha

/-- A write outside the window leaves the PPU and the parameters. -/
theorem OnlyTimePassed.write {addr : Word} (ha : ¬ InPpuWindow addr) (v : Byte) (h : OnlyTimePassed s t) :
    OnlyTimePassed s (busWrite addr v t).state := by
  obtain ⟨⟨⟩, u, hr⟩ | ⟨u, hr⟩ := access_cases (busWrite addr v t)
  · obtain ⟨hu, hppu, -⟩ := busWrite_ok hr
    rw [hr, state_ok]
    exact ⟨by rw [hu]; exact h.1, by rw [hppu ha]; exact h.2⟩
  · rw [hr, state_raised, busWrite_raised hr]
    exact h

theorem OnlyTimePassed.read {addr : Word} (ha : ¬ InPpuWindow addr) (h : OnlyTimePassed s t) :
    OnlyTimePassed s (busRead addr t).state := by
  rw [busRead_outside ha]
  exact h

theorem OnlyTimePassed.readPair {lo hi : Word} (hlo : ¬ InPpuWindow lo) (hhi : ¬ InPpuWindow hi)
    (h : OnlyTimePassed s t) : OnlyTimePassed s (busReadPair lo hi t).state :=
  andThen_state (h.read hlo) fun _ _ _ h => andThen_state (h.read hhi) fun _ _ _ h => h

/-! ### The stack and the BRK vector where R11 puts them -/

theorem stackAddr_outside (h : s.cfg.stackBase = 0x0100#16) : ¬ InPpuWindow (stackAddr s) := by
  have haddr := stackAddr_toNat h
  have := s.s.isLt
  rintro ⟨hlo, -⟩
  omega

variable (hbase : s.cfg.stackBase = 0x0100#16)
include hbase

theorem OnlyTimePassed.push8 (v : Byte) (h : OnlyTimePassed s t) : OnlyTimePassed s (push8 v t).state :=
  andThen_state (h.write (stackAddr_outside (by rw [h.1, hbase])) v) fun _ _ _ h => h

theorem OnlyTimePassed.push16 (w : Word) (h : OnlyTimePassed s t) : OnlyTimePassed s (push16 w t).state :=
  andThen_state (h.push8 hbase _) fun _ _ _ h => h.push8 hbase _

theorem OnlyTimePassed.pull8 (h : OnlyTimePassed s t) : OnlyTimePassed s (pull8 t).state :=
  OnlyTimePassed.read (t := { t with s := t.s + 1#8 })
    (stackAddr_outside (by change t.cfg.stackBase = _; rw [h.1, hbase])) h

theorem OnlyTimePassed.pull16 (h : OnlyTimePassed s t) : OnlyTimePassed s (pull16 t).state :=
  andThen_state (h.pull8 hbase) fun _ _ _ h => andThen_state (h.pull8 hbase) fun _ _ _ h => h

theorem OnlyTimePassed.returnFromInterrupt (h : OnlyTimePassed s t) :
    OnlyTimePassed s (returnFromInterrupt t).state :=
  andThen_state (h.pull8 hbase) fun _ _ _ h => andThen_state (OnlyTimePassed.pull16 hbase h) fun _ _ _ h => h

theorem OnlyTimePassed.brkEntry (hvec : s.cfg.vecBrk = 0xFFFE#16) (h : OnlyTimePassed s t) :
    OnlyTimePassed s (interruptEntry .brk t).state := by
  refine andThen_state (h.push16 hbase _) fun _ _ _ h => andThen_state (h.push8 hbase _) fun _ u _ h => ?_
  have hv : descriptorVector u.cfg .brk = 0xFFFE#16 := by rw [h.1]; exact hvec
  rw [hv]
  exact andThen_state (OnlyTimePassed.readPair (by decide) (by decide) (OnlyTimePassed.tick _ h)) fun _ _ _ h => h

end

/-! ### Whole instructions -/

/-- A memory operand whose effective address lies outside the window. -/
def OperandOutside (m : MemForm) (s : State) : Prop := ∀ pl w, resolve m s = .ok pl w → ¬ InPpuWindow pl.ea

section
variable {s t : State} {m : MemForm} {c : Cost} (hm : OperandOutside m s)
include hm

theorem readForm_onlyTimePassed {effect : Byte → State → State}
    (he : ∀ v u, OnlyTimePassed s u → OnlyTimePassed s (effect v u)) (ht : readForm m c effect s = .next t) :
    OnlyTimePassed s t := by
  obtain ⟨pl, hpl⟩ := resolve_ok m s
  rw [settle_next ht, hpl, andThen_ok]
  exact andThen_state ((OnlyTimePassed.refl s).read (hm _ _ hpl)) fun _ _ _ h => (he _ _ h).complete _ _

theorem storeForm_onlyTimePassed {before : State → State} {value : Place → State → Byte}
    (hb : ∀ u, OnlyTimePassed s u → OnlyTimePassed s (before u)) (ht : storeForm m c before value s = .next t) :
    OnlyTimePassed s t := by
  obtain ⟨pl, hpl⟩ := resolve_ok m s
  rw [settle_next ht, hpl, andThen_ok]
  exact andThen_state ((hb _ (OnlyTimePassed.refl s)).write (hm _ _ hpl) _) fun _ _ _ h => h.complete _ _

theorem rmwForm_onlyTimePassed {result : Byte → State → Byte} {effect : Byte → Byte → State → State}
    (he : ∀ v r u, OnlyTimePassed s u → OnlyTimePassed s (effect v r u))
    (ht : rmwForm m c result effect s = .next t) : OnlyTimePassed s t := by
  obtain ⟨pl, hpl⟩ := resolve_ok m s
  have hea := hm _ _ hpl
  rw [settle_next ht, hpl, andThen_ok]
  exact andThen_state ((OnlyTimePassed.refl s).read hea) fun _ _ _ h =>
    andThen_state (h.write hea _) fun _ _ _ h => (he _ _ _ h).complete _ _

end

/-- The mode of a jump or a call names a target, which is not accessed; every other kind accesses its operand's
effective address, and the jump through a pointer its two bytes. -/
def AccessesOutside (k : Kind) (o : Operand) (s : State) : Prop :=
  match k, o with
  | .jump, .indirect ptr => ¬ InPpuWindow ptr ∧ ¬ InPpuWindow (indirectHighAddr ptr)
  | .jump, _ => True
  | .call, _ => True
  | _, .memory m => OperandOutside m s
  | _, _ => True

/-- An instruction whose accesses lie outside the window changes the PPU through `Tick` alone. -/
theorem run_onlyTimePassed {k : Kind} {o : Operand} {c : Cost} {s t : State} (hbase : s.cfg.stackBase = 0x0100#16)
    (hvec : s.cfg.vecBrk = 0xFFFE#16) (ha : AccessesOutside k o s) (hk : k.Keeps (OnlyTimePassed s) o)
    (ht : k.run o c s = .next t) : OnlyTimePassed s t := by
  have h := OnlyTimePassed.refl s
  cases k
  case implied effect => cases ht; exact (hk s h).complete _ _
  case read effect =>
    cases o
    case immediate v => cases ht; exact (hk v s h).complete _ _
    case memory m => exact readForm_onlyTimePassed ha hk ht
    all_goals cases ht; exact h.complete _ _
  case store before value =>
    cases o
    case memory m => exact storeForm_onlyTimePassed ha hk ht
    all_goals cases ht; exact h
  case modify result effect onA =>
    cases o
    case memory m => exact rmwForm_onlyTimePassed ha hk ht
    all_goals cases ht; exact (hk s h).complete _ _
  case branch taken =>
    cases o
    case relative rel =>
      change branchForm rel c (taken s) s = _ at ht
      unfold branchForm at ht
      split at ht <;> cases ht
      · exact h.jump _ _
      · exact h.complete _ _
    all_goals cases ht; exact h
  case push value => cases ht; exact andThen_state (h.push8 hbase _) fun _ _ _ h => h.complete _ _
  case pull effect => cases ht; exact andThen_state (h.pull8 hbase) fun _ _ _ h => (hk.2 _ _ h).complete _ _
  case jump =>
    cases o
    case memory m =>
      cases m
      case absolute addr => cases ht; exact h.jump _ _
      all_goals cases ht; exact h
    case indirect ptr =>
      cases ht
      exact andThen_state (h.readPair ha.1 ha.2) fun _ _ _ h => h.jump _ _
    all_goals cases ht; exact h
  case call =>
    cases o
    case memory m =>
      cases m
      case absolute addr =>
        cases ht
        exact andThen_state (h.push16 hbase _) fun _ _ _ h => h.jump _ _
      all_goals cases ht; exact h
    all_goals cases ht; exact h
  case rts => cases ht; exact andThen_state (h.pull16 hbase) fun _ _ _ h => h.jump _ _
  case rti => cases ht; exact andThen_state (h.returnFromInterrupt hbase) fun _ _ _ h => h.tick _
  case brk =>
    change softwareBreak c s = _ at ht
    unfold softwareBreak at ht
    split at ht <;> rw [settle_next ht]
    · exact h
    · exact andThen_state (h.brkEntry hbase hvec) fun _ _ _ h => h.tick _
  case jam => cases ht; exact h

/-- The obligation's two hypotheses say where an instruction's kind accesses the bus. -/
theorem accessesOutside_of_operand {i : Instr} {s : State}
    (hm : i.mnemonic ≠ .jmp → i.mnemonic ≠ .jsr → ∀ m, i.operand = .memory m → OperandOutside m s)
    (hptr : ∀ ptr, i.operand = .indirect ptr → ¬ InPpuWindow ptr ∧ ¬ InPpuWindow (indirectHighAddr ptr)) :
    AccessesOutside (kindOf i.mnemonic) i.operand s := by
  unfold AccessesOutside
  split
  · next ho => exact hptr _ ho
  · trivial
  · trivial
  · next ho hjump hcall => exact hm (fun e => hjump (by rw [e]; rfl)) (fun e => hcall (by rw [e]; rfl)) _ ho
  · trivial

/-- Settles O60: every access of such an instruction lies outside the window, so the PPU changes through `Tick`
alone, which leaves the eight registers. -/
theorem ppuRegistersChangeOnlyThroughTheirWindow : Obligations.PpuRegistersChangeOnlyThroughTheirWindow := by
  intro i s t hbase hvec _ hm hptr ht
  rw [exec_eq_run] at ht
  have ha := accessesOutside_of_operand (s := s) (fun hjmp hjsr m ho pl w => hm hjmp hjsr m pl w ho) hptr
  have hk := kindOf_keeps (P := OnlyTimePassed s) (fun _ _ _ _ _ _ _ h => h) (fun _ _ h => h) i.mnemonic i.operand
  obtain ⟨-, hppu⟩ := run_onlyTimePassed hbase hvec ha hk ht
  rw [hppu]
  exact ⟨rfl, rfl, rfl, rfl, rfl, rfl, rfl, rfl⟩

end Sys2Proof.Proofs

/-! The state family (spec/10_state.md): the reset state, what no step changes in a terminal core, the invariant, and the
frame of the registers and the flags. -/

namespace Sys2Proof.Proofs

open Sys2Proof Sys2Proof.Machine Sys2Proof.Laws

/-! ## The reset state and the terminal states (R44, R45) -/

/-- Settles O49: the fields are read off `State.reset`, and the reset signal writes the values it already holds. -/
theorem resetStateHasTheStatedValues : Obligations.ResetStateHasTheStatedValues :=
  ⟨rfl, rfl, rfl, rfl, rfl, rfl, rfl, by rw [resetSignal_eq rfl rfl]; rfl⟩

/-- Settles O53: blank memories are canonical and list no index, P is 0x24, and the counters and Status are 0. -/
theorem resetStateMeetsTheInvariant : Obligations.ResetStateMeetsTheInvariant := by
  obtain ⟨hram, hvram, hoam, hpal, hprg, hchr⟩ := reset_memories_wf
  exact {
    ram := ⟨hram, rfl⟩
    vram := ⟨hvram, rfl⟩
    oam := ⟨hoam, rfl⟩
    pal := ⟨hpal, rfl⟩
    prg := ⟨hprg, rfl⟩
    chr := ⟨hchr, rfl⟩
    breakClear := rfl
    break2Set := rfl
    cycle := Nat.zero_le _
    scanline := Nat.zero_le _
    statusLow := rfl }

/-- Settles O46: `step` looks at the run status first and answers the same state for each that is not Running. -/
theorem terminalStatesAreLeftByNoStep : Obligations.TerminalStatesAreLeftByNoStep := by
  intro s hs
  unfold step
  split
  · next hrun => exact absurd hrun hs
  · rfl
  · rfl

/-! ## The invariant (R30, R37, R333) -/

theorem inv_kept : Kept State.Inv where
  read addr _ h := busRead_inv addr h
  tick n _ h := tick_inv n h
  pc _ _ h := { h with }
  status _ _ h := { h with }

theorem inv_keptByWrite : KeptByWrite State.Inv := fun addr v _ h => busWrite_inv addr v h

theorem inv_keptByS : KeptByS State.Inv := fun _ _ h => { h with }

/-- The invariant looks at Break and Break2 alone of the registers and P. -/
theorem inv_setRegisters (s : State) (a x y sp p : Byte) (hp : SameBreaks s.p p) (h : s.Inv) :
    ({ s with a := a, x := x, y := y, s := sp, p := p } : State).Inv :=
  { inv_setP h hp.1 hp.2 with }

/-- A status pull forces the live Break to 0 and Break2 to 1, whatever the byte (R30). -/
theorem inv_pulledStatus (b : Byte) (s : State) (h : s.Inv) : ({ s with p := pulledStatus b } : State).Inv :=
  { h with
    breakClear := getFlag_pulledStatus .b b
    break2Set := getFlag_pulledStatus .u b }

/-- Entering an interrupt sets I, which leaves Break and Break2. -/
theorem inv_setInterruptDisable (s : State) (h : s.Inv) : ({ s with p := setFlag .i true s.p } : State).Inv :=
  inv_setRegisters s s.a s.x s.y s.s _ (sameBreaks_setFlag true (by decide) (by decide) (.refl s.p)) h

/-- Settles O54: every bus access, `tick` and write of pc or S keeps the invariant, and so does the effect of every
instruction, which writes registers and P and leaves Break and Break2 unless it pulls the status. -/
theorem everyStepKeepsTheInvariant : Obligations.EveryStepKeepsTheInvariant := fun _ _ h ht =>
  step_keeps inv_kept inv_keptByWrite inv_keptByS inv_setInterruptDisable (fun _ h => { h with })
    (fun _ h => { h with }) (fun i => kindOf_keeps inv_setRegisters inv_pulledStatus i.mnemonic i.operand) h ht

/-! ## The effects write the listed registers and flags only (R21, R22, R29) -/

/-- A property that no write of a flag listed for the mnemonic ends. -/
def KeptByFlags (P : State → Prop) (m : Mnemonic) : Prop :=
  ∀ f, m.writesFlag f = true → ∀ (v : Bool) (u : State), P u → P { u with p := setFlag f v u.p }

section
variable {P : State → Prop} {m : Mnemonic}

theorem KeptByFlags.setZN (hf : KeptByFlags P m) (hzn : m.writesZN = true) (v : Byte) {u : State} (h : P u) :
    P { u with p := setZN v u.p } := hf .n hzn _ _ (hf .z hzn _ _ h)

/-- The flags of the shifts and the compares: C, then Z and N. -/
theorem KeptByFlags.carry (hf : KeptByFlags P m) (hc : m.writesC = true) (hzn : m.writesZN = true) (c : Bool) (v : Byte)
    {u : State} (h : P u) : P { u with p := Machine.setZN v (setFlag .c c u.p) } :=
  hf.setZN hzn v (hf .c hc c u h)

/-- The flags of the adder: C, V, then Z and N. -/
theorem KeptByFlags.sum (hf : KeptByFlags P m) (hc : m.writesC = true) (hv : m.writesFlag .v = true)
    (hzn : m.writesZN = true) (r : Sum) {u : State} (h : P u) : P { u with p := sumFlags r u.p } :=
  hf.setZN hzn _ (hf .v hv _ _ (hf .c hc _ _ h))

/-- A modify instruction without an accumulator form keeps what its effect on memory keeps. -/
theorem keeps_modifyMemory {result : Byte → State → Byte} {effect : Byte → Byte → State → State} (o : Operand)
    (he : ∀ v r u, P u → P (effect v r u)) : (Kind.modify result effect id).Keeps P o := by
  cases o
  case memory => exact he
  all_goals exact fun _ h => h

/-- The operand of a shift is the accumulator or in memory. -/
theorem shift_operand {o : Operand} (h : o.mode ∈ Mnemonic.asl.modes) : o = .accumulator ∨ ∃ f, o = .memory f := by
  cases o
  case accumulator => exact .inl rfl
  case memory f => exact .inr ⟨f, rfl⟩
  all_goals simp [Operand.mode, Mnemonic.modes] at h

end

/-- The effect of an instruction is a sequence of writes of registers and flags listed for it, so it keeps what each of
those writes keeps; a status pull writes all of P. -/
theorem kindOf_keepsListed {P : State → Prop} (i : Instr)
    (ha : i.writesA = true → ∀ (b : Byte) (u : State), P u → P { u with a := b })
    (hx : i.writesX = true → ∀ (b : Byte) (u : State), P u → P { u with x := b })
    (hy : i.writesY = true → ∀ (b : Byte) (u : State), P u → P { u with y := b })
    (hs : i.writesS = true → KeptByS P) (hf : KeptByFlags P i.mnemonic)
    (hp : (∀ f, i.mnemonic.writesFlag f = true) → ∀ (b : Byte) (u : State), P u → P { u with p := pulledStatus b }) :
    (kindOf i.mnemonic).Keeps P i.operand := by
  have hmode : i.operand.mode ∈ i.mnemonic.modes := mode_mem i
  unfold Instr.writesA at ha
  unfold Instr.writesX at hx
  unfold Instr.writesY at hy
  unfold Instr.writesS at hs
  generalize i.mnemonic = m at *
  generalize i.operand = o at *
  cases m
  case lda => exact fun v u h => hf.setZN rfl v (ha rfl v u h)
  case ldx => exact fun v u h => hf.setZN rfl v (hx rfl v u h)
  case ldy => exact fun v u h => hf.setZN rfl v (hy rfl v u h)
  case lax => exact fun v u h => hf.setZN rfl v (hx rfl v _ (ha rfl v u h))
  case las => exact fun v u h => hf.setZN rfl _ (hs rfl _ _ (hx rfl _ _ (ha rfl _ u h)))
  case lxa => exact fun v u h => hf.setZN rfl _ (hx rfl _ _ (ha rfl _ u h))
  case and | ora | eor | xaa => exact fun v u h => hf.setZN rfl _ (ha rfl _ u h)
  case adc | sbc => exact fun v u h => hf.sum rfl rfl rfl _ (ha rfl _ u h)
  case cmp | cpx | cpy => exact fun v u h => hf.carry rfl rfl _ _ h
  case axs => exact fun v u h => hf.carry rfl rfl _ _ (hx rfl ((u.a &&& u.x) - v) u h)
  case alr => exact fun v u h => hf.carry rfl rfl _ _ (ha rfl _ u h)
  case bit => exact fun v u h => hf .v rfl _ _ (hf .n rfl _ _ (hf .z rfl _ u h))
  case anc => exact fun v u h => hf .c rfl _ _ (hf.setZN rfl _ (ha rfl _ u h))
  case arr => exact fun v u h => hf .v rfl _ _ (hf .c rfl _ _ (hf.setZN rfl _ (ha rfl _ u h)))
  case nop => exact fun v u h => h
  case txa | tya => exact fun u h => hf.setZN rfl _ (ha rfl _ u h)
  case tax => exact fun u h => hf.setZN rfl _ (hx rfl u.a u h)
  case tsx => exact fun u h => hf.setZN rfl _ (hx rfl u.s u h)
  case inx => exact fun u h => hf.setZN rfl _ (hx rfl (u.x + 1#8) u h)
  case dex => exact fun u h => hf.setZN rfl _ (hx rfl (u.x - 1#8) u h)
  case tay => exact fun u h => hf.setZN rfl _ (hy rfl u.a u h)
  case iny => exact fun u h => hf.setZN rfl _ (hy rfl (u.y + 1#8) u h)
  case dey => exact fun u h => hf.setZN rfl _ (hy rfl (u.y - 1#8) u h)
  case txs => exact fun u h => hs rfl _ u h
  case clc | sec => exact hf .c rfl _
  case cli | sei => exact hf .i rfl _
  case cld | sed => exact hf .d rfl _
  case clv => exact hf .v rfl _
  case sta | stx | sty | sax | ahx | shy | shx => exact fun u h => h
  case tas => exact fun u h => hs rfl _ u h
  case inc | dec => exact keeps_modifyMemory o fun v r u h => hf.setZN rfl r h
  case dcp => exact keeps_modifyMemory o fun v r u h => hf.carry rfl rfl _ _ h
  case slo | rla | sre => exact keeps_modifyMemory o fun v r u h => hf.carry rfl rfl _ _ (ha rfl _ u h)
  case rra | isb => exact keeps_modifyMemory o fun v r u h => hf.sum rfl rfl rfl _ (ha rfl _ u h)
  case asl | lsr | rol | ror =>
    obtain rfl | ⟨f, rfl⟩ := shift_operand hmode
    · exact fun u h => hf.carry rfl rfl _ _ (ha rfl _ u h)
    · exact fun v r u h => hf.carry rfl rfl _ r h
  case pha | php | jsr | rts => exact hs rfl
  case pla => exact ⟨hs rfl, fun v u h => hf.setZN rfl v (ha rfl v u h)⟩
  case plp | rti => exact ⟨hs rfl, hp fun f => by cases f <;> rfl⟩
  case brk => exact ⟨hs rfl, hf .i rfl true⟩
  case jmp | jam | bcc | bcs | beq | bne | bmi | bpl | bvc | bvs => trivial

/-! ## The frame of the registers and the flags -/

/-- Between `s` and `t` only the registers and flags listed for the instruction have changed. -/
def RegisterFrame (i : Instr) (s t : State) : Prop :=
  (i.writesA = false → t.a = s.a) ∧ (i.writesX = false → t.x = s.x) ∧
  (i.writesY = false → t.y = s.y) ∧ (i.writesS = false → t.s = s.s) ∧
  ∀ f, i.mnemonic.writesFlag f = false → getFlag f t.p = getFlag f s.p

section
variable (i : Instr) (s : State)

theorem registerFrame_kept : Kept (RegisterFrame i s) where
  read addr u h := by rw [busRead_state]; exact h
  tick _ _ h := h
  pc _ _ h := h
  status _ _ h := h

theorem registerFrame_keptByWrite : KeptByWrite (RegisterFrame i s) := fun addr v u h => by
  rw [busWrite_state]
  exact h

theorem registerFrame_keptByFlags : KeptByFlags (RegisterFrame i s) i.mnemonic := by
  rintro f hw v u ⟨ha, hx, hy, hs, hf⟩
  refine ⟨ha, hx, hy, hs, fun g hg => ?_⟩
  have hne : g ≠ f := fun e => by simp [e, hw] at hg
  rw [getFlag_setFlag_ne v u.p hne, hf g hg]

/-- A write of a listed register, or of all of P where every flag is listed, stays within the frame. -/
theorem registerFrame_keptByEffect : (kindOf i.mnemonic).Keeps (RegisterFrame i s) i.operand :=
  kindOf_keepsListed i
    (fun hw _ _ ⟨_, hx, hy, hs, hf⟩ => ⟨by simp [hw], hx, hy, hs, hf⟩)
    (fun hw _ _ ⟨ha, _, hy, hs, hf⟩ => ⟨ha, by simp [hw], hy, hs, hf⟩)
    (fun hw _ _ ⟨ha, hx, _, hs, hf⟩ => ⟨ha, hx, by simp [hw], hs, hf⟩)
    (fun hw _ _ ⟨ha, hx, hy, _, hf⟩ => ⟨ha, hx, hy, by simp [hw], hf⟩)
    (registerFrame_keptByFlags i s)
    (fun hw _ _ ⟨ha, hx, hy, hs, _⟩ => ⟨ha, hx, hy, hs, by simp [hw]⟩)

end

/-- Settles O56: an instruction changes registers and flags through its effect and its stack accesses only, and these
write the listed ones. -/
theorem onlyListedInstructionsWriteEachRegisterAndFlag : Obligations.OnlyListedInstructionsWriteEachRegisterAndFlag := by
  intro i s t ht
  rw [exec_eq_run] at ht
  have hstart : RegisterFrame i s s := ⟨fun _ => rfl, fun _ => rfl, fun _ => rfl, fun _ => rfl, fun _ _ => rfl⟩
  exact run_keeps (registerFrame_kept i s) (fun _ => registerFrame_keptByWrite i s) (registerFrame_keptByEffect i s)
    hstart ht

end Sys2Proof.Proofs

/-! The memory family (spec/20_memory.md): the CPU address map, the forbidden accesses, `Tick` and the frame cadence, and
the memory frames of the instructions. -/

namespace Sys2Proof.Proofs

open Sys2Proof Sys2Proof.Machine Sys2Proof.Laws

/-! ## InvalidAccess under its two policies (R62, R303) -/

section
variable {s : State}

theorem violation_fatal {α : Type} (kind : AccessKind) (addr : Word) (default : α) (h : s.cfg.invalidAccess = .fatal) :
    violation kind addr default s = .raised { s with status := .faulted (.invalidAccess kind addr) } := by
  unfold violation
  rw [h]

theorem violation_ignore {α : Type} (kind : AccessKind) (addr : Word) (default : α) (h : s.cfg.invalidAccess = .ignore) :
    violation kind addr default s = .ok default s := by
  unfold violation
  rw [h]

/-! ## The CPU address map (R52 to R61) -/

variable {addr : Word} (hp : s.cfg.prgBase = 0x8000#16)
include hp

theorem busRead_unmapped (hlo : 0x4000 ≤ addr.toNat) (hhi : addr.toNat < 0x8000) :
    busRead addr s = .ok s.cfg.unmappedRead s := by
  unfold busRead
  rw [regionOf_unmapped hp hlo hhi]

theorem busWrite_unmapped (v : Byte) (hlo : 0x4000 ≤ addr.toNat) (hhi : addr.toNat < 0x8000) :
    busWrite addr v s = .ok () s := by
  unfold busWrite
  rw [regionOf_unmapped hp hlo hhi]

theorem busWrite_rom (v : Byte) (h : 0x8000 ≤ addr.toNat) : busWrite addr v s = violation .writeRom addr () s := by
  unfold busWrite
  rw [regionOf_rom hp h]

/-- A 16-bit read at the top address takes its high byte from address 0 (R50, D23). -/
theorem busRead16_top :
    busRead16 0xFFFF#16 s =
      .ok (joinBytes (memRead s.ram 0) (memRead s.rom.prg (0x7FFF % s.rom.prgSize.bytes))) s := by
  have hnext : 0xFFFF#16 + 1#16 = 0x0000#16 := rfl
  unfold busRead16 busReadPair
  rw [busRead_rom hp (by decide), andThen_ok, hnext, busRead_ram s (by decide)]
  rfl

/-- A 16-bit write at the top address writes ROM, and then address 0 unless that raised (R50, R62, D23). -/
theorem busWrite16_top (w : Word) :
    busWrite16 0xFFFF#16 w s = (violation .writeRom 0xFFFF#16 () s).andThen fun _ u =>
      .ok () { u with ram := memWrite u.ram 0 (highByte w) } := by
  have hnext : 0xFFFF#16 + 1#16 = 0x0000#16 := rfl
  unfold busWrite16
  rw [busWrite_rom hp _ (by decide), hnext]
  rfl

end

/-- Settles O30: each access in the region its address decodes to, and the 16-bit accesses as two of them. -/
theorem busDecodesRamUnmappedAndRom : Obligations.BusDecodesRamUnmappedAndRom := by
  intro addr v s hp
  refine ⟨fun h => ⟨busRead_ram s (by omega), busWrite_ram s v (by omega)⟩,
    fun hlo hhi => ⟨busRead_unmapped hp hlo (by omega), busWrite_unmapped hp v hlo (by omega)⟩, busRead_rom hp,
    fun w => ⟨fun h => ⟨busRead16_ram s h, busWrite16_ram s w h⟩, busRead16_top hp, fun hf => ?_, fun hi => ?_⟩⟩
  · rw [busWrite16_top hp, violation_fatal _ _ _ hf, andThen_raised]
  · rw [busWrite16_top hp, violation_ignore _ _ _ hi, andThen_ok]

/-! ## The forbidden accesses (R55, R62, R330) -/

/-- The register numbers of the window that a read may not name: the five write-only registers. -/
theorem ppuRegRead_none_iff (rom : Rom) (p : Ppu) (addr : Word) :
    ppuRegRead rom p (ppuRegOf addr) = none ↔ addr.toNat % 8 ∈ [0, 1, 3, 5, 6] := by
  have hlt : addr.toNat % 8 < 8 := Nat.mod_lt _ (by decide)
  unfold ppuRegOf
  generalize addr.toNat % 8 = r at hlt
  interval_cases r <;> simp [ppuRegRead]

/-- The register number of the window that a write may not name: Status. -/
theorem ppuRegWrite_none_iff (rom : Rom) (v : Byte) (p : Ppu) (addr : Word) :
    ppuRegWrite rom v p (ppuRegOf addr) = none ↔ addr.toNat % 8 = 2 := by
  have hlt : addr.toNat % 8 < 8 := Nat.mod_lt _ (by decide)
  unfold ppuRegOf
  generalize addr.toNat % 8 = r at hlt
  interval_cases r <;> simp [ppuRegWrite]

section
variable {s : State} {addr : Word} (hw : InPpuWindow addr)
include hw

/-- A read of a write-only register is a violation. -/
theorem busRead_writeOnly (hr : addr.toNat % 8 ∈ [0, 1, 3, 5, 6]) :
    busRead addr s = violation .readWriteOnly addr 0x00#8 s := by
  rw [busRead_ppu s hw, (ppuRegRead_none_iff _ _ addr).2 hr]

/-- A write of Status is a violation. -/
theorem busWrite_status (v : Byte) (hr : addr.toNat % 8 = 2) :
    busWrite addr v s = violation .writeStatus addr () s := by
  rw [busWrite_ppu s v hw, (ppuRegWrite_none_iff _ v _ addr).2 hr]

/-- Of the registers only the write-only ones raise on a read. -/
theorem writeOnly_of_busRead_raised {t : State} (h : busRead addr s = .raised t) :
    addr.toNat % 8 ∈ [0, 1, 3, 5, 6] := by
  rw [busRead_ppu s hw] at h
  split at h
  · cases h
  · next hnone => exact (ppuRegRead_none_iff _ _ addr).1 hnone

/-- Of the registers only Status raises on a write. -/
theorem status_of_busWrite_raised {v : Byte} {t : State} (h : busWrite addr v s = .raised t) : addr.toNat % 8 = 2 := by
  rw [busWrite_ppu s v hw] at h
  split at h
  · cases h
  · next hnone => exact (ppuRegWrite_none_iff _ v _ addr).1 hnone

end

/-- A write that raises names program ROM or Status: RAM and the unmapped range take every write. -/
theorem region_of_busWrite_raised {addr : Word} {v : Byte} {s t : State} (hp : s.cfg.prgBase = 0x8000#16)
    (h : busWrite addr v s = .raised t) : 0x8000 ≤ addr.toNat ∨ (InPpuWindow addr ∧ addr.toNat % 8 = 2) := by
  by_cases hram : addr.toNat < 0x2000
  · rw [busWrite_ram s v hram] at h
    cases h
  by_cases hppu : addr.toNat < 0x4000
  · have hw : InPpuWindow addr := ⟨by omega, hppu⟩
    exact .inr ⟨hw, status_of_busWrite_raised hw h⟩
  by_cases hun : addr.toNat < 0x8000
  · rw [busWrite_unmapped hp v (by omega) hun] at h
    cases h
  · exact .inl (by omega)

/-- Settles O31: each forbidden access is a violation, which the policy turns into a raise or into nothing, and a raise
of the bus comes from no other access. -/
theorem forbiddenAccessesFaultAndChangeNothingElse : Obligations.ForbiddenAccessesFaultAndChangeNothingElse := by
  intro addr v s hp
  refine ⟨fun h => ?_, fun hw hr => ?_, fun hw hr => ?_, ?_, ?_⟩
  · rw [busWrite_rom hp v h]
    exact ⟨violation_fatal _ _ _, violation_ignore _ _ _⟩
  · rw [busWrite_status hw v hr]
    exact ⟨violation_fatal _ _ _, violation_ignore _ _ _⟩
  · rw [busRead_writeOnly hw hr]
    exact ⟨violation_fatal _ _ _, violation_ignore _ _ _⟩
  · rintro ⟨t, ht⟩
    have hw := (busRead_raised ht).1
    exact ⟨hw, writeOnly_of_busRead_raised hw ht⟩
  · rintro ⟨t, ht⟩
    exact region_of_busWrite_raised hp ht

/-! ## `Tick` and the frame cadence (R24, R70, R310, R311) -/

/-- The end of an instruction moves pc from `opaddr + 1` to `opaddr + length` (R24). -/
theorem complete_eq_tick {s : State} {opaddr : Word} {length : Nat} (n : Nat) (hlen : 0 < length)
    (hpc : s.pc = opaddr + 1#16) :
    complete (length - 1) n s = tick n { s with pc := opaddr + BitVec.ofNat 16 length } := by
  have hsum : opaddr + 1#16 + BitVec.ofNat 16 (length - 1) = opaddr + BitVec.ofNat 16 length := by
    rw [BitVec.add_assoc, ← BitVec.ofNat_add, Nat.add_sub_cancel' hlen]
  unfold complete
  rw [hpc, hsum]

/-- A scanline that reaches neither line 241 nor line 262 only moves the scanline counter. -/
theorem ppuRun_line {p : Ppu} (hc : p.cycle = 0) (hv : p.scanline + 1 ≠ 241) (hf : p.scanline + 1 ≠ 262) :
    ppuRun 341 p = ({ p with scanline := p.scanline + 1 }, false) := by
  have hrun : ppuRun (340 - p.cycle + 1) p = ppuEndLine p := ppuRun_endLine (by omega)
  rw [hc] at hrun
  rw [hrun]
  unfold ppuEndLine
  dsimp only
  rw [if_neg hv, if_neg hf, hc]

/-- Whole scanlines that reach neither line 241 nor line 262 only move the scanline counter (R310). -/
theorem ppuRun_lines {p : Ppu} (k : Nat) (hc : p.cycle = 0)
    (hk : p.scanline + k < 241 ∨ 241 ≤ p.scanline ∧ p.scanline + k < 262) :
    ppuRun (341 * k) p = ({ p with scanline := p.scanline + k }, false) := by
  induction k with
  | zero => rfl
  | succ k ih =>
    have hline := ppuRun_line (p := { p with scanline := p.scanline + k }) hc (by dsimp only; omega)
      (by dsimp only; omega)
    rw [Nat.mul_succ, ppuRun_add, ih (by omega), hline, Bool.or_self]
    rfl

/-- Whole scanlines followed by part of one move both counters and nothing else. -/
theorem ppuRun_linesThen {p : Ppu} (k c : Nat) (hc : p.cycle = 0) (hle : c ≤ 340)
    (hk : p.scanline + k < 241 ∨ 241 ≤ p.scanline ∧ p.scanline + k < 262) :
    ppuRun (341 * k + c) p = ({ p with cycle := c, scanline := p.scanline + k }, false) := by
  rw [ppuRun_add, ppuRun_lines k hc hk, ppuRun_inLine (by dsimp only; omega)]
  simp only [hc, Nat.zero_add, Bool.or_self]

/-- The PPU at the start of a frame: both counters 0, Status clear and no NMI requested. -/
structure FrameStart (p : Ppu) : Prop where
  cycle : p.cycle = 0
  scanline : p.scanline = 0
  status : p.status = 0x00#8
  nmiPending : p.nmiPending = false

/-- The PPU of a frame when its vblank has just started (R311). -/
def vblankStart (p : Ppu) : Ppu :=
  { p with cycle := 0, scanline := 241, status := 0x80#8, nmiPending := p.ctrl.getLsbD 7 }

section
variable {p : Ppu} (h : FrameStart p)
include h

theorem FrameStart.eq : { p with cycle := 0, scanline := 0, status := 0x00#8, nmiPending := false } = p := by
  cases p
  obtain ⟨rfl, rfl, rfl, rfl⟩ := h
  rfl

/-- Up to cycle 82180 of a frame only the counters move, here on the last line before vblank. -/
theorem FrameStart.line240 {c : Nat} (hc : c ≤ 340) :
    ppuRun (341 * 240 + c) p = ({ p with cycle := c, scanline := 240 }, false) := by
  rw [ppuRun_linesThen 240 c h.cycle hc (by rw [h.scanline]; decide), h.scanline]

/-- Cycle 82181 of a frame starts vblank and requests the NMI if Control enables it. -/
theorem FrameStart.startsVblank : ppuRun (341 * 240 + 340 + 1) p = (vblankStart p, false) := by
  rw [ppuRun_add, h.line240 (by decide)]
  simp [ppuRun, ppuCycle, ppuEndLine, vblankStart, h.status, h.nmiPending]

/-- The cycles of vblank, `k` lines and `c` cycles into it, only move the counters. -/
theorem FrameStart.inVblank {k c : Nat} (hk : k ≤ 20) (hc : c ≤ 340) :
    ppuRun (341 * 240 + 340 + 1 + (341 * k + c)) p =
      ({ vblankStart p with cycle := c, scanline := 241 + k }, false) := by
  have hv : (vblankStart p).cycle = 0 := rfl
  have hline : (vblankStart p).scanline = 241 := rfl
  rw [ppuRun_add, h.startsVblank, ppuRun_linesThen k c hv hc (by rw [hline]; omega)]
  rfl

/-- Cycle 89342 of a frame clears vblank and the NMI request and completes the frame, back at its start. -/
theorem FrameStart.completes : ppuRun (341 * 240 + 340 + 1 + (341 * 20 + 340) + 1) p = (p, true) := by
  have hend : ppuRun 1 { vblankStart p with cycle := 340, scanline := 261 } = (p, true) := by
    simp [ppuRun, ppuCycle, ppuEndLine, vblankStart, h.eq]
  rw [ppuRun_add, h.inVblank (by decide) (by decide), hend]
  rfl

/-- The first cycle after a whole frame is the first of the next. -/
theorem FrameStart.nextFrame :
    ppuRun (341 * 240 + 340 + 1 + (341 * 20 + 340) + 1 + 1) p = ({ p with cycle := 1 }, true) := by
  have hc := h.cycle
  have hone := ppuRun_inLine (n := 1) (p := p) (by omega)
  rw [hc] at hone
  rw [ppuRun_add, h.completes, hone]
  rfl

end

/-- A `Tick` whose cycles complete no frame changes the PPU alone. -/
theorem tick_of_run {n : Nat} {s : State} {q : Ppu} (h : ppuRun (3 * n) s.ppu = (q, false)) :
    tick n s = { s with ppu := q } := by
  unfold tick
  rw [h, Bool.or_false]

/-- Settles O41: the frame is 240 lines and one to the start of vblank and 21 lines of vblank, each of 341 cycles; the
lines between only move the counters. -/
theorem frameCadenceSetsAndClearsVblank : Obligations.FrameCadenceSetsAndClearsVblank := by
  intro s
  refine ⟨fun n => ⟨rfl, ?_⟩, fun opaddr length n hlen hpc => complete_eq_tick n hlen hpc, fun hc hl hs hn => ?_⟩
  · rw [tick_frameDone, Bool.or_eq_true, ppuRun_completes]
  · have h : FrameStart s.ppu := ⟨hc, hl, hs, hn⟩
    refine ⟨h.line240 (c := 340) (by decide), h.startsVblank, h.completes, tick_of_run (h.line240 (c := 339) (by decide)),
      tick_of_run (h.inVblank (k := 0) (c := 1) (by decide) (by decide)),
      tick_of_run (h.inVblank (k := 20) (c := 339) (by decide) (by decide)), ?_⟩
    have hrun : ppuRun (3 * 29781) s.ppu = ({ s.ppu with cycle := 1 }, true) := h.nextFrame
    unfold tick
    rw [hrun, Bool.or_true]

/-! ## What the cells of the memories hold (R34, R35) -/

/-- The cells are in RAM, the PPU and the cartridge. -/
theorem peek_congr {s t : State} (hram : t.ram = s.ram) (hppu : t.ppu = s.ppu) (hrom : t.rom = s.rom) (c : MemCell) :
    peek t c = peek s c := by
  cases c <;> simp only [peek, hram, hppu, hrom]

/-- `Tick` moves no byte. -/
theorem peek_tick (n : Nat) (s : State) (c : MemCell) : peek (tick n s) c = peek s c := by
  have hframe : PpuTimeFrame s.ppu (tick n s).ppu := ppuRun_frame (3 * n) s.ppu
  unfold PpuTimeFrame at hframe
  cases c <;> simp only [peek, tick_ram, tick_rom]
  all_goals rw [hframe]

/-- Cell `c` of state `t` holds what it holds in state `s`. -/
abbrev SameCell (c : MemCell) (s t : State) : Prop := peek t c = peek s c

theorem sameCell_kept (c : MemCell) (s : State) : Kept (SameCell c s) where
  read addr u h := (busRead_peek addr u c).trans h
  tick n u h := (peek_tick n u c).trans h
  pc _ u h := (peek_congr (s := u) rfl rfl rfl c).trans h
  status _ u h := (peek_congr (s := u) rfl rfl rfl c).trans h

/-- The effect of every instruction writes registers and P only. -/
theorem sameCell_keptByEffect (c : MemCell) (s : State) (m : Mnemonic) (o : Operand) :
    (kindOf m).Keeps (SameCell c s) o :=
  kindOf_keeps (fun u _ _ _ _ _ _ h => (peek_congr (s := u) rfl rfl rfl c).trans h)
    (fun _ u h => (peek_congr (s := u) rfl rfl rfl c).trans h) m o

/-! ## Which kinds access the memory for writing (R66) -/

theorem kindOf_stores {m : Mnemonic} (h : m.stores = true) : ∃ before value, kindOf m = .store before value := by
  cases m
  case sta | stx | sty | sax | ahx | shy | shx | tas => exact ⟨_, _, rfl⟩
  all_goals cases h

theorem kindOf_modifies {m : Mnemonic} (h : m.modifies = true) :
    ∃ result effect onA, kindOf m = .modify result effect onA := by
  cases m
  case inc | dec | asl | lsr | rol | ror | slo | rla | sre | rra | dcp | isb => exact ⟨_, _, _, rfl⟩
  all_goals cases h

/-- A mnemonic that neither stores, modifies nor pushes writes no memory, and one that modifies does not when its
operand is the accumulator. -/
theorem kindOf_writes_eq_false {m : Mnemonic} {o : Operand} (hs : m.stores = false)
    (hm : m.modifies = false ∨ o = .accumulator) (hp : m.pushes = 0) : (kindOf m).writes o = false := by
  cases m
  case sta | stx | sty | sax | ahx | shy | shx | tas => cases hs
  case pha | php | jsr | brk => cases hp
  case inc | dec | asl | lsr | rol | ror | slo | rla | sre | rra | dcp | isb =>
    obtain hm | rfl := hm
    · cases hm
    · rfl
  all_goals rfl

/-- Settles O57: the accesses of such an instruction are reads, and its effect writes registers. -/
theorem nonStoringInstructionsLeaveEveryCell : Obligations.NonStoringInstructionsLeaveEveryCell := by
  intro i s t c hs hm hp ht
  rw [exec_eq_run] at ht
  have hw := kindOf_writes_eq_false hs hm hp
  exact run_keeps (sameCell_kept c s) (fun h => by rw [hw] at h; cases h)
    (sameCell_keptByEffect c s i.mnemonic i.operand) (rfl : peek s c = peek s c) ht

/-! ## Stores and read-modify-writes (R66) -/

/-- A bus write at `addr` leaves cell `c`, and the cell holds what it holds in state `s`. -/
def CellApart (addr : Word) (c : MemCell) (s u : State) : Prop := storedCell addr u ≠ some c ∧ SameCell c s u

/-- The registers do not decide which cell a write changes. -/
theorem cellApart_keptByEffect (addr : Word) (c : MemCell) (s : State) (m : Mnemonic) (o : Operand) :
    (kindOf m).Keeps (CellApart addr c s) o :=
  kindOf_keeps (fun u _ _ _ _ _ _ h => ⟨h.1, (peek_congr (s := u) rfl rfl rfl c).trans h.2⟩)
    (fun _ u h => ⟨h.1, (peek_congr (s := u) rfl rfl rfl c).trans h.2⟩) m o

section
variable {m : MemForm} {cost : Cost} {s t : State} {pl : Place} {c : MemCell} (hpl : resolve m s = .ok pl s)
include hpl

/-- A store leaves every cell but the one its effective address names. -/
theorem storeForm_sameCell {before : State → State} {value : Place → State → Byte}
    (hb : ∀ u, CellApart pl.ea c s u → CellApart pl.ea c s (before u)) (hc : storedCell pl.ea s ≠ some c)
    (ht : storeForm m cost before value s = .next t) : SameCell c s t := by
  obtain ⟨hcell, hsame⟩ := hb s ⟨hc, rfl⟩
  rw [settle_next ht, hpl, andThen_ok]
  exact andThen_state ((busWrite_peek _ hcell).trans hsame) fun _ _ _ h => complete_keeps (sameCell_kept c s) _ _ h

/-- A read-modify-write leaves every cell but the one its effective address names after the operand read. -/
theorem rmwForm_sameCell {result : Byte → State → Byte} {effect : Byte → Byte → State → State}
    (he : ∀ v r u, SameCell c s u → SameCell c s (effect v r u))
    (hc : ∀ v u, busRead pl.ea s = .ok v u → storedCell pl.ea u ≠ some c)
    (ht : rmwForm m cost result effect s = .next t) : SameCell c s t := by
  rw [settle_next ht, hpl, andThen_ok]
  refine andThen_state (busRead_peek pl.ea s c) fun v u hu h => ?_
  exact andThen_state ((busWrite_peek _ (hc v u hu)).trans h) fun _ _ _ h =>
    complete_keeps (sameCell_kept c s) _ _ (he _ _ _ h)

end

/-- Settles O58: the one bus write of the instruction is at its effective address, and its effect writes registers. -/
theorem storesChangeOnlyTheAddressedCell : Obligations.StoresChangeOnlyTheAddressedCell := by
  intro i m s t pl w c ho hpl ht
  obtain rfl := resolve_state hpl
  rw [exec_eq_run, ho] at ht
  refine ⟨fun hs hc => ?_, fun hm hc => ?_⟩
  · obtain ⟨before, value, hk⟩ := kindOf_stores hs
    have hb := cellApart_keptByEffect pl.ea c w i.mnemonic (.memory m)
    rw [hk] at hb ht
    exact storeForm_sameCell hpl hb hc ht
  · obtain ⟨result, effect, onA, hk⟩ := kindOf_modifies hm
    have he := sameCell_keptByEffect c w i.mnemonic (.memory m)
    rw [hk] at he ht
    exact rmwForm_sameCell hpl he hc ht

/-! ## Pushes (R51, R220) -/

/-- On the way through an instruction that began in `s`: cell `c` is not one of the next `n` pushed, and holds what it
held. -/
structure PushesLeft (c : MemCell) (s : State) (n : Nat) (t : State) : Prop where
  stackBase : t.cfg.stackBase = 0x0100#16
  apart : c ∉ pushedCells n t.s
  same : SameCell c s t

section
variable {c : MemCell} {s t : State} {n : Nat}

/-- One push writes the first of the cells and moves S to the rest. -/
theorem PushesLeft.push8 (v : Byte) (h : PushesLeft c s (n + 1) t) : ∃ u, push8 v t = .ok () u ∧ PushesLeft c s n u := by
  obtain ⟨hbase, hapart, hsame⟩ := h
  have hne : c ≠ .ram (0x100 + t.s.toNat) := List.ne_of_not_mem_cons hapart
  refine ⟨_, push8_ram v hbase, hbase, List.not_mem_of_not_mem_cons hapart, Eq.trans ?_ hsame⟩
  cases c
  case ram k => exact memRead_memWrite_ne _ _ fun e => hne (by rw [e])
  all_goals rfl

theorem PushesLeft.push16 (w : Word) (h : PushesLeft c s (n + 2) t) :
    ∃ u, push16 w t = .ok () u ∧ PushesLeft c s n u := by
  obtain ⟨u, hu, h⟩ := h.push8 (highByte w)
  obtain ⟨u', hu', h⟩ := h.push8 (lowByte w)
  exact ⟨u', by rw [Machine.push16, hu, andThen_ok, hu'], h⟩

/-- The interrupt entry pushes three bytes; its flag write and its vector read move none. -/
theorem PushesLeft.interruptEntry (d : Descriptor) (h : PushesLeft c s 3 t) :
    SameCell c s (interruptEntry d t).state := by
  obtain ⟨u, hu, h⟩ := h.push16 t.pc
  obtain ⟨u', hu', h⟩ := h.push8 (pushedStatus (descriptorMask d) u.p)
  have hflag : SameCell c s { u' with p := setFlag .i true u'.p } := (peek_congr rfl rfl rfl c).trans h.same
  have hK := sameCell_kept c s
  rw [Machine.interruptEntry, hu, andThen_ok, hu', andThen_ok]
  exact andThen_state (busReadPair_keeps hK _ _ (hK.tick _ _ hflag)) fun _ _ _ h => hK.pc _ _ h

theorem pushForm_sameCell {cost : Cost} {value : State → Byte} (h : PushesLeft c s 1 s)
    (ht : pushForm cost value s = .next t) : SameCell c s t := by
  obtain ⟨u, hu, h⟩ := h.push8 (value s)
  rw [settle_next ht, hu]
  exact complete_keeps (sameCell_kept c s) _ _ h.same

theorem callSubroutine_sameCell {target : Word} {cost : Cost} (h : PushesLeft c s 2 s)
    (ht : callSubroutine target cost s = .next t) : SameCell c s t := by
  have hK := sameCell_kept c s
  obtain ⟨u, hu, h⟩ := h.push16 (s.pc + 1#16)
  rw [settle_next ht, hu]
  exact hK.tick _ _ (hK.pc _ _ h.same)

theorem softwareBreak_sameCell {cost : Cost} (h : PushesLeft c s 3 s) (ht : softwareBreak cost s = .next t) :
    SameCell c s t := by
  have hK := sameCell_kept c s
  unfold softwareBreak at ht
  split at ht <;> rw [settle_next ht]
  · exact hK.status _ _ rfl
  · exact andThen_state (h.interruptEntry .brk) fun _ _ _ h => hK.tick _ _ h

end

/-- The operand of JSR is the absolute address it calls. -/
theorem jsr_operand {o : Operand} (h : o.mode ∈ Mnemonic.jsr.modes) : ∃ addr, o = .memory (.absolute addr) := by
  cases o
  case memory m =>
    cases m
    case absolute addr => exact ⟨addr, rfl⟩
    all_goals simp [Operand.mode, MemForm.mode, Mnemonic.modes] at h
  all_goals simp [Operand.mode, Mnemonic.modes] at h

/-- Settles O59: PHA and PHP push one byte, JSR two and BRK three, each at S, which then moves down; the rest of the
instruction writes no memory. -/
theorem pushesChangeOnlyTheStackCells : Obligations.PushesChangeOnlyTheStackCells := by
  intro i s t c hpush hbase _ _ ht hc
  have h : PushesLeft c s i.mnemonic.pushes s := ⟨hbase, hc, rfl⟩
  have hmode : i.operand.mode ∈ i.mnemonic.modes := mode_mem i
  rw [exec_eq_run] at ht
  generalize i.mnemonic = m at *
  generalize i.operand = o at *
  cases m
  case pha | php => exact pushForm_sameCell h ht
  case jsr =>
    obtain ⟨addr, rfl⟩ := jsr_operand hmode
    exact callSubroutine_sameCell h ht
  case brk => exact softwareBreak_sameCell h ht
  all_goals cases hpush

end Sys2Proof.Proofs

/-! The encoding family (spec/30_encoding.md): decode and encode are inverse to each other, the addressing modes, and the
step as the fetch and the run of one instruction. -/

namespace Sys2Proof.Proofs

open Sys2Proof Sys2Proof.Machine Sys2Proof.Laws

/-! ## Rows and the instructions they stand for (R90, R91, R93) -/

/-- A row's shape stands for an instruction: it builds that instruction from one operand, and from every operand an
instruction of the same opcode, whose operand bytes are those of the operand. -/
inductive StandsFor : Shape → Instr → Prop
  | bare (i : Instr) (hbytes : i.operand.bytes = []) : StandsFor (.bare i) i
  | withByte (f : Byte → Instr) (b : Byte) (hop : ∀ c, (f c).opcode = (f b).opcode)
      (hbytes : ∀ c, (f c).operand.bytes = [c]) : StandsFor (.withByte f) (f b)
  | withWord (f : Word → Instr) (w : Word) (hop : ∀ v, (f v).opcode = (f w).opcode)
      (hbytes : ∀ v, (f v).operand.bytes = [lowByte v, highByte v]) : StandsFor (.withWord f) (f w)

/-- The row of an instruction's opcode stands for the instruction. This is the one case split over the instructions. -/
theorem opcodeRow_standsFor (i : Instr) : ∃ row, opcodeRow i.opcode = some row ∧ StandsFor row.shape i := by
  cases i
  all_goals
    dsimp only [Instr.opcode]
    refine ⟨_, rfl, ?_⟩
    constructor <;> intros <;> rfl

/-- The instruction of a shape whose operand bytes are zero. -/
def zeroInstr : Shape → Instr
  | .bare i => i
  | .withByte f => f 0#8
  | .withWord f => f 0#16

/-- Every byte is the opcode of the instruction its row builds. -/
theorem zeroInstr_opcode : ∀ op : Byte, (opcodeRow op).map (fun row => (zeroInstr row.shape).opcode) = some op := by
  decide

/-- The table is total: every byte is the opcode of some instruction (R93). -/
theorem opcode_surjective (op : Byte) : ∃ i : Instr, i.opcode = op := by
  obtain ⟨row, -, hop⟩ := Option.map_eq_some_iff.1 (zeroInstr_opcode op)
  exact ⟨zeroInstr row.shape, hop⟩

/-- Every byte has a row, which stands for an instruction of that opcode. -/
theorem opcodeRow_total (op : Byte) : ∃ row i, opcodeRow op = some row ∧ StandsFor row.shape i ∧ i.opcode = op := by
  obtain ⟨i, rfl⟩ := opcode_surjective op
  obtain ⟨row, hrow, hi⟩ := opcodeRow_standsFor i
  exact ⟨row, i, hrow, hi, rfl⟩

section
variable {sh : Shape} {i : Instr} (h : StandsFor sh i)
include h

/-- A shape takes the operand bytes of its instruction and leaves what follows. -/
theorem StandsFor.apply_bytes (op : Byte) (rest : List Byte) : sh.apply op (i.operand.bytes ++ rest) = .ok (i, rest) := by
  cases h with
  | bare i hbytes => rw [hbytes]; rfl
  | withByte f b _ hbytes => rw [hbytes]; rfl
  | withWord f w _ hbytes =>
    rw [hbytes]
    dsimp only [List.cons_append, List.nil_append, Shape.apply]
    rw [joinBytes_split]

/-- What a shape builds from bytes has the shape's opcode and gives the bytes back. -/
theorem StandsFor.of_apply {op : Byte} {bytes rest : List Byte} {j : Instr} (hj : sh.apply op bytes = .ok (j, rest)) :
    j.opcode = i.opcode ∧ j.operand.bytes ++ rest = bytes := by
  cases h with
  | bare i hbytes =>
    cases hj
    exact ⟨rfl, by rw [hbytes]; rfl⟩
  | withByte f b hop hbytes =>
    match bytes, hj with
    | b1 :: bs, hj =>
      cases hj
      exact ⟨hop b1, by rw [hbytes]; rfl⟩
  | withWord f w hop hbytes =>
    match bytes, hj with
    | lo :: hi :: bs, hj =>
      cases hj
      exact ⟨hop _, by rw [hbytes, lowByte_joinBytes, highByte_joinBytes]; rfl⟩

end

/-- Two operand bytes are enough for every shape. -/
theorem shape_apply_two (sh : Shape) (op b1 b2 : Byte) : ∃ i rest, sh.apply op [b1, b2] = .ok (i, rest) := by
  cases sh with
  | bare i => exact ⟨i, [b1, b2], rfl⟩
  | withByte f => exact ⟨f b1, [b2], rfl⟩
  | withWord f => exact ⟨f (joinBytes b2 b1), [], rfl⟩

/-! ## Decode and encode (R90, R91, R93) -/

/-- Decode is a lookup of the opcode byte and the shape of its row. -/
theorem decodePrefix_cons {op : Byte} {row : OpcodeRow} (h : opcodeRow op = some row) (rest : List Byte) :
    decodePrefix (op :: rest) = row.shape.apply op rest := by
  simp only [decodePrefix, h]

/-- Decode reads an instruction off a byte sequence exactly when the sequence begins with its encoding. -/
theorem decodePrefix_eq_ok_iff {bytes rest : List Byte} {i : Instr} :
    decodePrefix bytes = .ok (i, rest) ↔ encode i ++ rest = bytes := by
  constructor
  · intro h
    cases bytes with
    | nil => cases h
    | cons op operands =>
      obtain ⟨row, j, hrow, hj, hop⟩ := opcodeRow_total op
      rw [decodePrefix_cons hrow] at h
      obtain ⟨hsame, hbytes⟩ := hj.of_apply h
      rw [encode, List.cons_append, hbytes, hsame, hop]
  · rintro rfl
    obtain ⟨row, hrow, hi⟩ := opcodeRow_standsFor i
    rw [encode, List.cons_append, decodePrefix_cons hrow, hi.apply_bytes]

theorem decode_eq_ok_iff {bytes : List Byte} {i : Instr} : decode bytes = .ok i ↔ ∃ rest, encode i ++ rest = bytes := by
  simp only [← decodePrefix_eq_ok_iff]
  unfold decode
  cases decodePrefix bytes with
  | error e => simp
  | ok read => simp [Prod.ext_iff]

theorem decode_encode (i : Instr) : decode (encode i) = .ok i := decode_eq_ok_iff.2 ⟨[], List.append_nil _⟩

/-- The encoding of an instruction has its length (R90, R91). -/
theorem encode_length (i : Instr) : (encode i).length = i.length := (TableRow.everyRow i).2

/-- Bytes of an instruction's own length that decode to it are its encoding. -/
theorem eq_encode_of_decode {bytes : List Byte} {i : Instr} (h : decode bytes = .ok i) (hlen : bytes.length = i.length) :
    bytes = encode i := by
  obtain ⟨rest, rfl⟩ := decode_eq_ok_iff.1 h
  rw [List.length_append, encode_length, Nat.add_eq_left] at hlen
  rw [List.length_eq_zero_iff.1 hlen, List.append_nil]

/-- Every instruction's mnemonic has its operand's mode. -/
theorem instr_wf (i : Instr) : i.wf = true := List.contains_iff_mem.2 (mode_mem i)

/-- Settles O50: the row of an instruction's opcode takes its operand bytes and leaves what follows. -/
theorem decodeInvertsEncode : Obligations.DecodeInvertsEncode := fun i _ =>
  ⟨instr_wf i, decodePrefix_eq_ok_iff.2 rfl⟩

/-- Settles O51: the opcode byte has a row, two bytes are enough for its operand, and what is decoded encodes to the
bytes read. -/
theorem everyByteSequenceDecodesToItsEncoding : Obligations.EveryByteSequenceDecodesToItsEncoding := by
  intro b0 b1 b2
  obtain ⟨row, -, hrow, -⟩ := opcodeRow_total b0
  obtain ⟨i, rest, happly⟩ := shape_apply_two row.shape b0 b1 b2
  have hdec : decodePrefix [b0, b1, b2] = .ok (i, rest) := (decodePrefix_cons hrow _).trans happly
  have henc : encode i ++ rest = [b0, b1, b2] := decodePrefix_eq_ok_iff.1 hdec
  have hop : i.opcode = b0 := (List.cons.inj henc).1
  obtain ⟨⟨row', hrow', hmnemonic, hmode, -⟩, hlen⟩ := TableRow.everyRow i
  rw [hop] at hrow'
  exact ⟨i, rest, hdec, henc, hop, hlen, row', hrow', congrArg Mode.length hmode.symm, hmnemonic.symm, hmode.symm⟩

/-- Settles O52: each word is the encoding of its instruction. -/
theorem specWordsDecodeToTheirInstructions : Obligations.SpecWordsDecodeToTheirInstructions :=
  ⟨decode_encode (.ldaImm 0xC0#8), decode_encode (.staAbs 0x2006#16), decode_encode (.ldxZpY 0x10#8),
    decode_encode (.jmpInd 0x1234#16), decode_encode (.bne 0xFB#8), decode_encode .aslAcc, decode_encode .plp,
    decode_encode (.sloIndY 0x10#8)⟩

/-! ## The addressing modes (R103 to R111) -/

/-- A 16-bit base plus an index wraps modulo 65536, and `crossed` says that the high byte changed (R107, R108, R111). -/
theorem indexedPlace_wraps (base : Word) (index : Byte) :
    (indexedPlace base index).base = base ∧
    (indexedPlace base index).ea.toNat = (base.toNat + index.toNat) % 65536 ∧
    ((indexedPlace base index).crossed = true ↔ (indexedPlace base index).ea.toNat / 256 ≠ base.toNat / 256) := by
  refine ⟨rfl, ?_, pageDiffers_iff _ _⟩
  unfold indexedPlace
  rw [BitVec.toNat_add, zeroExtend16_toNat]

/-- Settles O28: the page-0 sums are sums of bytes, and the 16-bit sums are indexed places. -/
theorem directAndIndexedModesResolve : Obligations.DirectAndIndexedModesResolve := fun _ base s =>
  ⟨rfl, rfl, rfl, rfl, ⟨indexedPlace base s.x, rfl, indexedPlace_wraps base s.x⟩,
    indexedPlace base s.y, rfl, indexedPlace_wraps base s.y⟩

theorem resolve_indirectX (zp : Byte) (s : State) :
    resolve (.indirectX zp) s =
      .ok (directPlace (joinBytes (memRead s.ram (zp + s.x + 1#8).toNat) (memRead s.ram (zp + s.x).toNat))) s := by
  rw [resolve, readZeroPagePointer_eq, andThen_ok]

theorem resolve_indirectY (zp : Byte) (s : State) :
    resolve (.indirectY zp) s =
      .ok (indexedPlace (joinBytes (memRead s.ram (zp + 1#8).toNat) (memRead s.ram zp.toNat)) s.y) s := by
  rw [resolve, readZeroPagePointer_eq, andThen_ok]

/-- Settles O29: a pointer in page 0 is read from RAM without a raise; IndirectY indexes it. -/
theorem pointerModesReadPageZero : Obligations.PointerModesReadPageZero := by
  intro zp s
  constructor
  · rintro ptr rfl
    exact resolve_indirectX zp s
  · rintro ptr rfl
    exact ⟨_, resolve_indirectY zp s, indexedPlace_wraps _ s.y⟩

/-! ## The step (R120) -/

/-- An instruction is its opcode byte and its operand bytes. -/
theorem length_eq_operandCount (i : Instr) : i.length = operandCount i.opcode + 1 := by
  have hlen := encode_length i
  rw [encode, List.length_cons] at hlen
  rw [operandCount_opcode]
  omega

/-- The fetch reads the bytes of the instruction at pc and moves pc past its opcode byte (R24, R67, R120). -/
theorem fetch_of_readBytes {s t : State} {i : Instr} (h : readBytes i.length s.pc s = .ok (encode i) t) :
    fetch s = .ok i { t with pc := s.pc + 1#16 } := by
  rw [length_eq_operandCount, readBytes] at h
  obtain ⟨op, u, hop, h⟩ := andThen_eq_ok.1 h
  obtain ⟨operands, v, hoperands, h⟩ := andThen_eq_ok.1 h
  injection h with henc ht
  subst ht
  have hi : op = i.opcode := (List.cons.inj henc).1
  unfold fetch
  rw [busRead_setPc, hop, Access.setPc_ok, andThen_ok, readBytes_setPc, hi, hoperands, Access.setPc_ok, andThen_ok,
    ← hi, henc, decode_encode]

/-- Settles O44: the bytes read are the encoding of the instruction, so the fetch after the poll ends in it. -/
theorem stepRunsTheDecodedInstruction : Obligations.StepRunsTheDecodedInstruction := by
  intro s t u i bytes hrun hpoll hread hdec _
  obtain rfl := eq_encode_of_decode hdec (readBytes_length hread)
  exact step_begun hrun ((beginStep_polled hpoll).trans (fetch_of_readBytes hread))

end Sys2Proof.Proofs

/-! The load, store and transfer family (spec/40_load_store_transfer.md): an instruction that reads its operand, one
that stores, and one that only changes registers and flags, each as one rule over its kind. -/

namespace Sys2Proof.Proofs

open Sys2Proof Sys2Proof.Machine Sys2Proof.Laws

/-! ## What an instruction costs (R95, R96, R114) -/

/-- Only a mode that indexes a 16-bit base can cross a page (R107, R108, R111). -/
theorem indexedMode_of_crossed {m : MemForm} {s w : State} {pl : Place} (h : resolve m s = .ok pl w)
    (hc : pl.crossed = true) : TableRow.indexedMode m.mode = true := by
  cases m
  case absoluteX | absoluteY | indirectY => rfl
  case indirectX zp =>
    rw [resolve_indirectX] at h
    cases h
    cases hc
  all_goals
    cases h
    cases hc

/-- The page-crossed boolean of an operand read is false outside the indexed modes. -/
theorem indexed_and_crossed {o : Operand} {s u : State} {v : Byte} {crossed : Bool}
    (h : ReadsOperand o s v crossed u) : (TableRow.indexedMode o.mode && crossed) = crossed := by
  obtain ⟨rfl, rfl, -⟩ | ⟨m, pl, w, rfl, hpl, -, rfl⟩ := h
  · rfl
  · exact Bool.and_eq_right_iff_imp.2 (indexedMode_of_crossed hpl)

/-- The mnemonics of the read kind are those whose row may take the page-cross penalty (R114). -/
theorem reads_of_kindOf {m : Mnemonic} {effect : Byte → State → State} (h : kindOf m = .read effect) :
    m.reads = true := by
  cases m
  case lda | ldx | ldy | adc | sbc | cmp | cpx | cpy | and | ora | eor | bit | lax | las | anc | alr | arr | axs | xaa |
      lxa | nop => rfl
  all_goals cases h

/-- The mnemonics of the store kind are those whose row has a store's cycles and takes no page-cross penalty. -/
theorem stores_of_kindOf {m : Mnemonic} {before : State → State} {value : Place → State → Byte}
    (h : kindOf m = .store before value) : m.stores = true ∧ m.reads = false := by
  cases m
  case sta | stx | sty | sax | ahx | shy | shx | tas => exact ⟨rfl, rfl⟩
  all_goals cases h

/-- An instruction that reads its operand costs the cycles of its mode, and one more on a page cross. -/
theorem costTotal_of_read {i : Instr} {effect : Byte → State → State} {s u : State} {v : Byte} {crossed : Bool}
    (hk : kindOf i.mnemonic = .read effect) (h : ReadsOperand i.operand s v crossed u) :
    (costOf i.opcode).total crossed = readCycles i.mode + crossed.toNat := by
  have hreads := reads_of_kindOf hk
  have hcrossed : (TableRow.indexedMode i.mode && crossed) = crossed := indexed_and_crossed h
  rw [costOf_opcode, Cost.total, (baseCycles_cost i).1 hreads, pageCross_eq, hreads, Bool.true_and, hcrossed]

/-- A store's cost does not depend on a page cross (R133). -/
theorem costTotal_of_store {i : Instr} {before : State → State} {value : Place → State → Byte}
    (hk : kindOf i.mnemonic = .store before value) (crossed : Bool) :
    (costOf i.opcode).total crossed = storeCycles i.mode := by
  obtain ⟨hstores, hreads⟩ := stores_of_kindOf hk
  rw [costOf_opcode, Cost.total, (baseCycles_cost i).2.1 hstores, pageCross_eq, hreads, Bool.false_and,
    Bool.false_and, Bool.toNat_false, Nat.add_zero]

/-! ## One rule per kind (R66, R67, R120) -/

section
variable {i : Instr} {s u : State} {v : Byte}

/-- An instruction that reads its operand applies its effect to the byte read, in the state the read leaves. -/
theorem exec_read {effect : Byte → State → State} {crossed : Bool} (hk : kindOf i.mnemonic = .read effect)
    (h : ReadsOperand i.operand s v crossed u) :
    exec i s = .next (complete (i.length - 1) (readCycles i.mode + crossed.toNat) (effect v u)) := by
  rw [← costTotal_of_read hk h, exec_eq_run, hk]
  unfold Instr.length Instr.mode
  obtain ⟨ho, rfl, rfl⟩ | ⟨m, pl, w, ho, hpl, hread, rfl⟩ := h <;> rw [ho]
  · rfl
  · change readForm m _ effect s = _
    rw [readForm, hpl, andThen_ok, hread, andThen_ok]
    rfl

/-- A store writes its value at the effective address, after what it does to the registers first. -/
theorem exec_store {before : State → State} {value : Place → State → Byte} {pl : Place} {w : State}
    (hk : kindOf i.mnemonic = .store before value)
    (h : StoresOperand i.operand s pl w (value pl (before w)) (before w) u) :
    exec i s = .next (complete (i.length - 1) (storeCycles i.mode) u) := by
  obtain ⟨m, ho, hpl, hwrite⟩ := h
  rw [← costTotal_of_store hk pl.crossed, exec_eq_run, hk]
  unfold Instr.length Instr.mode
  rw [ho]
  change storeForm m _ before value s = _
  rw [storeForm, hpl, andThen_ok, hwrite, andThen_ok]
  rfl

end

/-- An instruction that only changes registers or flags takes two cycles and has no operand byte. -/
theorem exec_implied {i : Instr} {effect : State → State} (hk : kindOf i.mnemonic = .implied effect) (s : State) :
    exec i s = .next (complete 0 2 (effect s)) := by
  cases i
  case tax | tay | txa | tya | tsx | txs | inx | iny | dex | dey | clc | sec | cli | sei | cld | sed | clv =>
    cases hk
    rfl
  all_goals cases hk

/-- Settles O4: each of the five reads its operand, and its effect writes the byte read and its Z and N. -/
theorem loadsWriteTheOperandByteAndSetZN : Obligations.LoadsWriteTheOperandByteAndSetZN := by
  intro i s m crossed u h
  exact ⟨fun hm => exec_read (effect := ldaEffect) (congrArg kindOf hm) h,
    fun hm => exec_read (effect := ldxEffect) (congrArg kindOf hm) h,
    fun hm => exec_read (effect := ldyEffect) (congrArg kindOf hm) h,
    fun hm => exec_read (effect := laxEffect) (congrArg kindOf hm) h,
    fun hm => exec_read (effect := lasEffect) (congrArg kindOf hm) h⟩

/-- Settles O12: each of the four is a store of its register that does nothing before the write. -/
theorem storesWriteTheirRegister : Obligations.StoresWriteTheirRegister := by
  intro i s pl w v u hv h
  obtain ⟨hm, rfl⟩ | ⟨hm, rfl⟩ | ⟨hm, rfl⟩ | ⟨hm, rfl⟩ := hv
  all_goals exact exec_store (congrArg kindOf hm) h

/-- Settles O17: each of the ten is an implied instruction whose effect is the update stated. -/
theorem transfersAndIndexIncrementsWriteOneRegister : Obligations.TransfersAndIndexIncrementsWriteOneRegister :=
  fun s => ⟨exec_implied (effect := taxEffect) rfl s, exec_implied (effect := tayEffect) rfl s,
    exec_implied (effect := txaEffect) rfl s, exec_implied (effect := tyaEffect) rfl s,
    exec_implied (effect := tsxEffect) rfl s, exec_implied (effect := txsEffect) rfl s,
    exec_implied (effect := inxEffect) rfl s, exec_implied (effect := inyEffect) rfl s,
    exec_implied (effect := dexEffect) rfl s, exec_implied (effect := deyEffect) rfl s⟩

end Sys2Proof.Proofs

/-! The arithmetic and logic family (spec/41_arithmetic_logic.md): the adder against the exact sum and the exact
difference, the instructions that combine a register with the operand read, and the two that modify a memory byte. -/

namespace Sys2Proof.Proofs

open Sys2Proof Sys2Proof.Machine Sys2Proof.Laws

/-! ## The adder (R150, R152) -/

/-- The adder's result is the exact sum modulo 256. -/
theorem addCore_result_toNat (a m : Byte) (c : Nat) :
    (addCore a m c).result.toNat = (a.toNat + m.toNat + c) % 256 := BitVec.toNat_ofNat _ 8

theorem addCore_carry_iff (a m : Byte) (c : Nat) :
    (addCore a m c).carry = true ↔ 0xFF < a.toNat + m.toNat + c := decide_eq_true_iff

/-- The mask 0x80 of a byte is not 0 exactly when its sign bit is set. -/
theorem and_0x80_ne_zero (v : Byte) : (v &&& 0x80#8 != 0#8) = v.msb := by decide +revert

/-- The adder overflows when the result's sign differs from the sign of both operands. -/
theorem addCore_overflow_eq_msb (a m : Byte) (c : Nat) :
    (addCore a m c).overflow = ((a.msb ^^ (addCore a m c).result.msb) && (m.msb ^^ (addCore a m c).result.msb)) := by
  change (_ &&& 0x80#8 != 0#8) = _
  rw [and_0x80_ne_zero, BitVec.msb_and, BitVec.msb_xor, BitVec.msb_xor]
  rfl

/-- With a carry-in of at most 1, the adder overflows when the signed sum lies outside -128 .. 127. -/
theorem addCore_overflow_iff (a m : Byte) {c : Nat} (hc : c ≤ 1) :
    (addCore a m c).overflow = true ↔ a.toInt + m.toInt + c < -128 ∨ 127 < a.toInt + m.toInt + c := by
  have hr := addCore_result_toNat a m c
  rw [addCore_overflow_eq_msb, BitVec.msb_eq_decide, BitVec.msb_eq_decide, BitVec.msb_eq_decide,
    BitVec.toInt_eq_toNat_cond, BitVec.toInt_eq_toNat_cond]
  simp only [Bool.and_eq_true, bne_iff_ne, ne_eq, decide_eq_decide]
  split <;> split <;> omega

/-- Settles O2: the sum is taken in the naturals, and the signs of the operands and the result decide the overflow. -/
theorem adderCarryAndOverflowMatchTheExactSum : Obligations.AdderCarryAndOverflowMatchTheExactSum := fun a m c =>
  ⟨addCore_result_toNat a m c.toNat, addCore_carry_iff a m c.toNat, addCore_overflow_iff a m (Bool.toNat_le c)⟩

/-- The one's complement of a byte is 255 less the byte. -/
theorem complement_toNat (m : Byte) : (m ^^^ 0xFF#8).toNat = 255 - m.toNat := by
  change (m ^^^ BitVec.allOnes 8).toNat = _
  rw [BitVec.xor_allOnes, BitVec.toNat_not]

/-- The one's complement of a byte is one less than its negation. -/
theorem complement_toInt (m : Byte) : (m ^^^ 0xFF#8).toInt = -m.toInt - 1 := by
  rw [BitVec.toInt_eq_toNat_cond, BitVec.toInt_eq_toNat_cond, complement_toNat]
  split <;> split <;> omega

/-- Settles O3: it is the sum with the complement, which is -1 - M signed and 255 - M unsigned. -/
theorem subtractionBorrowAndOverflowMatchTheDifference :
    Obligations.SubtractionBorrowAndOverflowMatchTheDifference := by
  intro a m c
  have hc : c.toNat ≤ 1 := Bool.toNat_le c
  rw [addCore_result_toNat, addCore_carry_iff, addCore_overflow_iff a _ hc, complement_toNat, complement_toInt]
  refine ⟨?_, ?_, ?_⟩ <;> omega

/-! ## One rule for the instructions that modify memory (R66, R120) -/

/-- The mnemonics of the modify kind are those whose row has a modify's cycles and takes no page-cross penalty. -/
theorem modifies_of_kindOf {m : Mnemonic} {result : Byte → State → Byte} {effect : Byte → Byte → State → State}
    {onA : State → State} (h : kindOf m = .modify result effect onA) : m.modifies = true ∧ m.reads = false := by
  cases m
  case inc | dec | asl | lsr | rol | ror | slo | rla | sre | rra | dcp | isb => exact ⟨rfl, rfl⟩
  all_goals cases h

section
variable {i : Instr} {result : Byte → State → Byte} {effect : Byte → Byte → State → State} {onA : State → State}

/-- The cost of a modify instruction does not depend on a page cross (R114). -/
theorem costTotal_of_modify (hk : kindOf i.mnemonic = .modify result effect onA) (crossed : Bool) :
    (costOf i.opcode).total crossed = modifyCycles i.mode := by
  obtain ⟨hmodifies, hreads⟩ := modifies_of_kindOf hk
  rw [costOf_opcode, Cost.total, (baseCycles_cost i).2.2 hmodifies, pageCross_eq, hreads, Bool.false_and,
    Bool.false_and, Bool.toNat_false, Nat.add_zero]

/-- An instruction that modifies memory writes back the result of the byte read, then applies its effect to both. -/
theorem exec_modify {s w u : State} {v : Byte} (hk : kindOf i.mnemonic = .modify result effect onA)
    (h : ModifiesOperand i.operand s v w (result v w) u) :
    exec i s = .next (complete (i.length - 1) (modifyCycles i.mode) (effect v (result v w) u)) := by
  obtain ⟨m, pl, w', ho, hpl, hread, hwrite⟩ := h
  rw [← costTotal_of_modify hk pl.crossed, exec_eq_run, hk]
  unfold Instr.length Instr.mode
  rw [ho]
  change rmwForm m _ result effect s = _
  rw [rmwForm, hpl, andThen_ok, hread, andThen_ok, hwrite, andThen_ok]
  rfl

end

/-! ## The instructions -/

/-- Settles O5: each reads its operand and runs the adder on A, the operand or its complement, and the carry. -/
theorem addAndSubtractWriteAAndFourFlags : Obligations.AddAndSubtractWriteAAndFourFlags := by
  intro i s m crossed u h
  exact ⟨fun hm => exec_read (effect := adcEffect) (congrArg kindOf hm) h,
    fun hm => exec_read (effect := sbcEffect) (congrArg kindOf hm) h⟩

/-- Settles O6: each reads its operand and writes the flags of the comparison of its register with it. -/
theorem compareWritesOnlyCarryZeroNegative : Obligations.CompareWritesOnlyCarryZeroNegative := by
  intro i s m crossed u r h hr
  obtain ⟨hm, rfl⟩ | ⟨hm, rfl⟩ | ⟨hm, rfl⟩ := hr
  · exact exec_read (effect := cmpEffect) (congrArg kindOf hm) h
  · exact exec_read (effect := cpxEffect) (congrArg kindOf hm) h
  · exact exec_read (effect := cpyEffect) (congrArg kindOf hm) h

/-- Settles O7: each reads its operand and writes its combination with A, with Z and N of it. -/
theorem logicWritesAAndSetsZN : Obligations.LogicWritesAAndSetsZN := by
  intro i s m crossed u r h hr
  obtain ⟨hm, rfl⟩ | ⟨hm, rfl⟩ | ⟨hm, rfl⟩ := hr
  · exact exec_read (effect := andEffect) (congrArg kindOf hm) h
  · exact exec_read (effect := oraEffect) (congrArg kindOf hm) h
  · exact exec_read (effect := eorEffect) (congrArg kindOf hm) h

/-- What each flag of a status byte is after BIT (R160). -/
theorem getFlag_bitFlags (f : Flag) (a m p : Byte) :
    getFlag f (bitFlags a m p) =
      if f = .v then m.getLsbD 6 else if f = .n then m.getLsbD 7 else if f = .z then a &&& m == 0#8
        else getFlag f p := by
  unfold bitFlags
  rw [getFlag_setFlag, getFlag_setFlag, getFlag_setFlag]

/-- BIT has a zero-page and an absolute form only, which cannot cross a page (R160). -/
theorem crossed_eq_false_of_bit {i : Instr} {s u : State} {m : Byte} {crossed : Bool} (hm : i.mnemonic = .bit)
    (h : ReadsOperand i.operand s m crossed u) : crossed = false := by
  have hmem : i.operand.mode ∈ Mnemonic.bit.modes := hm ▸ mode_mem i
  have hmodes : ∀ mode ∈ Mnemonic.bit.modes, TableRow.indexedMode mode = false := by decide
  rw [← indexed_and_crossed h, hmodes _ hmem, Bool.false_and]

/-- Settles O8: BIT reads its operand without a page cross and writes P only, flag by flag. -/
theorem bitTestsWithoutWritingA : Obligations.BitTestsWithoutWritingA := by
  intro i s m crossed u hm h
  obtain rfl := crossed_eq_false_of_bit hm h
  refine ⟨bitFlags u.a m u.p, exec_read (effect := bitEffect) (congrArg kindOf hm) h, ?_, ?_, ?_, fun f hz hn hv => ?_⟩
  · rw [getFlag_bitFlags, if_neg (by decide), if_neg (by decide), if_pos rfl]
    rfl
  · rw [getFlag_bitFlags, if_neg (by decide), if_pos rfl]
  · rw [getFlag_bitFlags, if_pos rfl]
  · rw [getFlag_bitFlags, if_neg hv, if_neg hn, if_neg hz]

/-- Settles O14: each modifies the byte it reads by 1 and sets Z and N from the byte it writes. -/
theorem incrementAndDecrementMemoryWrap : Obligations.IncrementAndDecrementMemoryWrap := by
  intro i s v w r u hr h
  obtain ⟨hm, rfl⟩ | ⟨hm, rfl⟩ := hr
  · exact exec_modify (result := incResult) (effect := incEffect) (onA := id) (congrArg kindOf hm) h
  · exact exec_modify (result := decResult) (effect := decEffect) (onA := id) (congrArg kindOf hm) h

end Sys2Proof.Proofs

/-! The shift and rotate family (spec/42_shift_rotate.md): the accumulator form beside the memory form of the modify
instructions, and one rule that gives both forms of a shift. -/

namespace Sys2Proof.Proofs

open Sys2Proof Sys2Proof.Machine Sys2Proof.Laws

/-! ## The rotates and the carry (R182, R183) -/

theorem rotateLeft_eq (v p : Byte) : rotateLeft v p = (v <<< 1 ||| if getFlag .c p then 0x01#8 else 0x00#8) := by
  unfold rotateLeft carryIn
  cases getFlag .c p <;> rfl

theorem rotateRight_eq (v p : Byte) : rotateRight v p = (v >>> 1 ||| if getFlag .c p then 0x80#8 else 0x00#8) := by
  unfold rotateRight carryIn
  cases getFlag .c p <;> rfl

/-- The read of a modify instruction leaves P, so the carry that enters a rotate is the one before the instruction
(R184). -/
theorem p_eq_of_modifiesOperand {o : Operand} {s w u : State} {v r : Byte} (h : ModifiesOperand o s v w r u) :
    w.p = s.p := by
  obtain ⟨m, pl, w', -, hpl, hread, -⟩ := h
  rw [(busRead_ok hread).1, resolve_state hpl]

/-! ## Both forms of a modify instruction -/

section
variable {i : Instr} {result : Byte → State → Byte} {effect : Byte → Byte → State → State} {onA : State → State}

/-- A modify instruction on A takes two cycles, has no operand byte and accesses no memory. -/
theorem exec_modifyA (hk : kindOf i.mnemonic = .modify result effect onA) (ho : i.operand = .accumulator) (s : State) :
    exec i s = .next (complete 0 2 (onA s)) := by
  have hcycles : (costOf i.opcode).total false = 2 := by
    rw [costTotal_of_modify hk, Instr.mode, ho]
    rfl
  rw [← hcycles, exec_eq_run, hk, ho]
  rfl

/-- A shift of A and the same shift of memory, for an instruction whose result `r` depends on P alone beside the byte
`v`, with `out` shifted into C. -/
theorem exec_shift {s : State} {v r : Byte} {out : Bool} (hk : kindOf i.mnemonic = .modify result effect onA)
    (hresult : ∀ w : State, w.p = s.p → result v w = r)
    (heffect : ∀ u, effect v r u = { u with p := shiftFlags out r u.p })
    (honA : v = s.a → onA s = { s with a := result v s, p := shiftFlags out (result v s) s.p }) :
    (i.operand = .accumulator → v = s.a →
      exec i s = .next (complete 0 2 { s with a := r, p := shiftFlags out r s.p })) ∧
    ∀ w u, ModifiesOperand i.operand s v w r u →
      exec i s = .next (complete (i.length - 1) (modifyCycles i.mode) { u with p := shiftFlags out r u.p }) := by
  constructor
  · intro ho hv
    rw [exec_modifyA hk ho, honA hv, hresult s rfl]
  · intro w u h
    have hr := hresult w (p_eq_of_modifiesOperand h)
    rw [← heffect, ← hr]
    exact exec_modify hk (hr ▸ h)

end

/-- Settles O15: each of the four is one rule for its form on A and its form on memory, and the rotates take the carry
of the state before the instruction. -/
theorem shiftsMoveOneBitThroughCarry : Obligations.ShiftsMoveOneBitThroughCarry := by
  intro i s v r out carry hshift hcarry
  subst hcarry
  obtain ⟨hm, rfl, rfl⟩ | ⟨hm, rfl, rfl⟩ | ⟨hm, rfl, rfl⟩ | ⟨hm, rfl, rfl⟩ := hshift
  · exact exec_shift (result := aslResult) (effect := aslEffect) (onA := aslAccEffect) (congrArg kindOf hm)
      (fun _ _ => rfl) (fun _ => rfl) (fun hv => hv ▸ rfl)
  · exact exec_shift (result := lsrResult) (effect := lsrEffect) (onA := lsrAccEffect) (congrArg kindOf hm)
      (fun _ _ => rfl) (fun _ => rfl) (fun hv => hv ▸ rfl)
  · exact exec_shift (result := rolResult) (effect := rolEffect) (onA := rolAccEffect) (congrArg kindOf hm)
      (fun _ hp => hp ▸ rotateLeft_eq v _) (fun _ => rfl) (fun hv => hv ▸ rfl)
  · exact exec_shift (result := rorResult) (effect := rorEffect) (onA := rorAccEffect) (congrArg kindOf hm)
      (fun _ hp => hp ▸ rotateRight_eq v _) (fun _ => rfl) (fun hv => hv ▸ rfl)

end Sys2Proof.Proofs

/-! The control flow family (spec/43_control_flow.md): words on the stack and the interrupt frame in closed form, with the
stack page where R11 puts it, then NOP, the branches, the jumps, and the calls with their returns. -/

namespace Sys2Proof.Proofs

open Sys2Proof Sys2Proof.Machine Sys2Proof.Laws

/-! ## Words on the stack (R22, R51) -/

/-- RAM after a word is pushed from stack pointer `sp`: the high byte at `sp`, the low byte below it (R51). -/
def pushedWord (w : Word) (sp : Byte) (m : Memory) : Memory :=
  memWrite (memWrite m (0x100 + sp.toNat) (highByte w)) (0x100 + (sp - 1#8).toNat) (lowByte w)

/-- A pushed word is read back from the two cells above the new stack pointer, which are apart even where it wraps. -/
theorem joinBytes_pushedWord {m : Memory} (hm : memoryWf m = true) (w : Word) (sp : Byte) :
    joinBytes (memRead (pushedWord w sp m) (0x100 + sp.toNat))
      (memRead (pushedWord w sp m) (0x100 + (sp - 1#8).toNat)) = w := by
  have hne : 0x100 + sp.toNat ≠ 0x100 + (sp - 1#8).toNat := by bv_omega
  unfold pushedWord
  rw [memRead_memWrite_ne _ _ hne, memRead_memWrite_self _ _ hm, memRead_memWrite_self _ _ (memWrite_wf _ _ hm),
    joinBytes_split]

section
variable {s : State} (hbase : s.cfg.stackBase = 0x0100#16)
include hbase

theorem push16_ram (w : Word) :
    push16 w s = .ok () { s with ram := pushedWord w s.s s.ram, s := s.s - 2#8 } := by
  have hs : s.s - 1#8 - 1#8 = s.s - 2#8 := by bv_omega
  unfold push16
  rw [push8_ram _ hbase, andThen_ok, push8_ram, hs]
  · rfl
  · exact hbase

theorem pull16_ram :
    pull16 s = .ok (joinBytes (memRead s.ram (0x100 + (s.s + 2#8).toNat)) (memRead s.ram (0x100 + (s.s + 1#8).toNat)))
      { s with s := s.s + 2#8 } := by
  have hs : s.s + 1#8 + 1#8 = s.s + 2#8 := by bv_omega
  unfold pull16
  rw [pull8_ram hbase, andThen_ok, pull8_ram, andThen_ok, hs]
  exact hbase

/-- A word pushed from stack pointer `sp` is pulled again as long as RAM and S are as the push left them. -/
theorem pull16_pushedWord {m : Memory} {w : Word} {sp : Byte} (hm : memoryWf m = true)
    (hram : s.ram = pushedWord w sp m) (hs : s.s = sp - 2#8) : pull16 s = .ok w { s with s := sp } := by
  have hhi : s.s + 2#8 = sp := by bv_omega
  have hlo : s.s + 1#8 = sp - 1#8 := by bv_omega
  rw [pull16_ram hbase, hhi, hlo, hram, joinBytes_pushedWord hm]

/-! ## The interrupt frame (R320, R323) -/

/-- The entry through a vector at offset `k` of the program ROM window: pc and the status are pushed, I is set, the cost
is ticked, and pc is the word at the vector. -/
theorem interruptEntry_rom {d : Descriptor} {k : Nat} (hvec : (descriptorVector s.cfg d).toNat = 0x8000 + k)
    (hprg : s.cfg.prgBase = 0x8000#16) (hk : k < 0x7FFF) :
    interruptEntry d s = .ok () (tick (descriptorCycles s.cfg d)
      { s with
        ram := memWrite (pushedWord s.pc s.s s.ram) (0x100 + (s.s - 2#8).toNat)
          (pushedStatus (descriptorMask d) s.p)
        s := s.s - 3#8
        p := setFlag .i true s.p
        pc := joinBytes (memRead s.rom.prg ((k + 1) % s.rom.prgSize.bytes))
          (memRead s.rom.prg (k % s.rom.prgSize.bytes)) }) := by
  have hs : s.s - 2#8 - 1#8 = s.s - 3#8 := by bv_omega
  have hlo : 0x8000 + k - 0x8000 = k := Nat.add_sub_cancel_left 0x8000 k
  have hhi : 0x8000 + k + 1 - 0x8000 = k + 1 := by rw [Nat.add_assoc, Nat.add_sub_cancel_left]
  unfold interruptEntry
  rw [push16_ram hbase, andThen_ok, push8_ram, andThen_ok, busRead16_rom, andThen_ok, hs]
  · dsimp only [tick_rom]
    rw [hvec, hlo, hhi]
    rfl
  · exact hprg
  · dsimp only
    omega
  · dsimp only
    omega
  · exact hbase

/-- The return pulls the status and then the return address. -/
theorem returnFromInterrupt_ram :
    returnFromInterrupt s = .ok ()
      { s with
        s := s.s + 3#8
        p := pulledStatus (memRead s.ram (0x100 + (s.s + 1#8).toNat))
        pc := joinBytes (memRead s.ram (0x100 + (s.s + 3#8).toNat)) (memRead s.ram (0x100 + (s.s + 2#8).toNat)) +
          BitVec.ofNat 16 s.cfg.rtiPcAdjust.val } := by
  have hhi : s.s + 1#8 + 2#8 = s.s + 3#8 := by bv_omega
  have hlo : s.s + 1#8 + 1#8 = s.s + 2#8 := by bv_omega
  unfold returnFromInterrupt
  rw [pull8_ram hbase, andThen_ok, pull16_ram, andThen_ok, hhi, hlo]
  exact hbase

end

/-! ## NOP (R195, R261) -/

/-- An instruction of the read kind without an operand takes two cycles and changes no register and no flag. -/
theorem exec_readImplied {i : Instr} {effect : Byte → State → State} (hk : kindOf i.mnemonic = .read effect)
    (ho : i.operand = .implied) (s : State) : exec i s = .next (complete 0 2 s) := by
  have hcycles : (costOf i.opcode).total false = 2 := by
    rw [costOf_opcode, Cost.total, (baseCycles_cost i).1 (reads_of_kindOf hk), Bool.and_false, Instr.mode, ho]
    rfl
  rw [← hcycles, exec_eq_run, hk, ho]
  rfl

/-- Settles O11: NOP is of the read kind, and its effect on the byte read is none. -/
theorem nopReadsItsOperandAndChangesNothingElse : Obligations.NopReadsItsOperandAndChangesNothingElse := by
  intro i s hm
  have hk : kindOf i.mnemonic = .read nopReadEffect := congrArg kindOf hm
  exact ⟨fun ho => exec_readImplied hk ho s, fun m crossed u h => exec_read hk h⟩

/-! ## The branches (R193, R198 to R205) -/

/-- A branch whose condition says that flag `f` is `v`: its target, and its cost from the pages of the target and of the
next instruction. -/
theorem branchForm_follows {rel : Byte} {c : Cost} {taken : Bool} {s : State} {f : Flag} {v : Bool}
    {opaddr target : Word} (hc : c.cycles = 2) (htaken : taken = true ↔ getFlag f s.p = v)
    (hpc : s.pc = opaddr + 1#16) (htarget : target = opaddr + 2#16 + rel.signExtend 16) :
    (getFlag f s.p = v → branchForm rel c taken s = .next (tick
      (if highByte target = highByte (opaddr + 2#16) then 3 else 4) { s with pc := target })) ∧
    (getFlag f s.p ≠ v → branchForm rel c taken s = .next (tick 2 { s with pc := opaddr + 2#16 })) := by
  have hnext : s.pc + 1#16 = opaddr + 2#16 := hpc ▸ BitVec.add_assoc opaddr 1#16 1#16
  have hbranch : branchTarget (s.pc + 1#16) rel = target := by rw [hnext, htarget]; rfl
  unfold branchForm
  rw [hbranch, hnext, hc]
  refine ⟨fun h => ?_, fun h => ?_⟩
  · have hextra : 2 + branchExtra (opaddr + 2#16) target =
        if highByte target = highByte (opaddr + 2#16) then 3 else 4 := by
      unfold branchExtra pageDiffers
      split
      · next heq => rw [heq, bne_self_eq_false]; rfl
      · next hne => rw [bne_iff_ne.2 hne]; rfl
    rw [if_pos (htaken.2 h), hextra]
  · rw [if_neg (mt htaken.1 h)]
    exact congrArg _ (complete_eq_tick (length := 2) 2 (by decide) hpc)

/-- Settles O19: each of the eight is the branch of its own condition, which says its flag has the stated value. -/
theorem branchesFollowTheirFlag : Obligations.BranchesFollowTheirFlag := by
  intro rel i f v hmem s opaddr target hpc htarget
  simp only [List.mem_cons, Prod.mk.injEq, List.not_mem_nil, or_false] at hmem
  have hclear : ∀ f, (!getFlag f s.p) = true ↔ getFlag f s.p = false := fun _ => by rw [Bool.not_eq_true']
  obtain ⟨rfl, rfl, rfl⟩ | ⟨rfl, rfl, rfl⟩ | ⟨rfl, rfl, rfl⟩ | ⟨rfl, rfl, rfl⟩ | ⟨rfl, rfl, rfl⟩ | ⟨rfl, rfl, rfl⟩ |
    ⟨rfl, rfl, rfl⟩ | ⟨rfl, rfl, rfl⟩ := hmem
  · exact branchForm_follows (c := costOf 0x90#8) rfl (hclear .c) hpc htarget
  · exact branchForm_follows (c := costOf 0xB0#8) rfl .rfl hpc htarget
  · exact branchForm_follows (c := costOf 0xF0#8) rfl .rfl hpc htarget
  · exact branchForm_follows (c := costOf 0xD0#8) rfl (hclear .z) hpc htarget
  · exact branchForm_follows (c := costOf 0x30#8) rfl .rfl hpc htarget
  · exact branchForm_follows (c := costOf 0x10#8) rfl (hclear .n) hpc htarget
  · exact branchForm_follows (c := costOf 0x50#8) rfl (hclear .v) hpc htarget
  · exact branchForm_follows (c := costOf 0x70#8) rfl .rfl hpc htarget

/-! ## The jumps (R109, R190) -/

/-- The mask 0xFF00 keeps the page of an address. -/
theorem and_0xFF00 (w : Word) : w &&& 0xFF00#16 = joinBytes (highByte w) 0x00#8 := by
  have hmask : 0xFF00#16 = BitVec.allOnes 8 ++ 0#8 := rfl
  conv_lhs => rw [← joinBytes_split w]
  unfold joinBytes
  rw [hmask, BitVec.and_append, BitVec.and_allOnes, BitVec.and_zero]

/-- The second pointer byte is at the next address, or at the start of the page where that would leave it (R109). -/
theorem indirectHighAddr_eq (ptr : Word) :
    indirectHighAddr ptr = if lowByte ptr = 0xFF#8 then ptr &&& 0xFF00#16 else ptr + 1#16 := by
  have hlow : lowByte ptr = 0xFF#8 ↔ ptr.toNat % 256 = 255 := by
    rw [← BitVec.toNat_inj, lowByte_toNat]
    rfl
  split
  · next hend =>
    have hwrap : lowByte (ptr + 1#16) = 0x00#8 := by
      rw [hlow] at hend
      apply BitVec.eq_of_toNat_eq
      rw [lowByte_toNat, BitVec.toNat_add, BitVec.toNat_ofNat, BitVec.toNat_ofNat]
      omega
    rw [and_0xFF00, indirectHighAddr, hwrap]
  · next hinside =>
    rw [hlow] at hinside
    apply BitVec.eq_of_toNat_eq
    rw [indirectHighAddr, joinBytes_toNat, highByte_toNat, lowByte_toNat, BitVec.toNat_add, BitVec.toNat_ofNat]
    omega

/-- Settles O20: the jump takes its target, or the word at its two pointer addresses. -/
theorem jumpIndirectWrapsInsideThePage : Obligations.JumpIndirectWrapsInsideThePage := by
  intro s
  refine ⟨fun addr => rfl, fun ptr lo hi t u hlo hhi => ?_⟩
  have hexec : exec (.jmpInd ptr) s = jumpIndirect ptr (costOf 0x6C#8) s := rfl
  rw [← indirectHighAddr_eq] at hhi
  rw [hexec, jumpIndirect, resolveIndirect, busReadPair, hlo, andThen_ok, hhi]
  rfl

/-! ## Calls and returns (R191, R192, R196, R197) -/

/-- JSR pushes the address of its last byte and jumps. -/
theorem exec_jsr {addr opaddr : Word} {s : State} (hbase : s.cfg.stackBase = 0x0100#16)
    (hpc : s.pc = opaddr + 1#16) :
    exec (.jsr addr) s = .next (tick 6
      { s with ram := pushedWord (opaddr + 2#16) s.s s.ram, s := s.s - 2#8, pc := addr }) := by
  have hlast : s.pc + 1#16 = opaddr + 2#16 := hpc ▸ BitVec.add_assoc opaddr 1#16 1#16
  have hexec : exec (.jsr addr) s = callSubroutine addr (costOf 0x20#8) s := rfl
  rw [hexec, callSubroutine, hlast, push16_ram hbase]
  rfl

/-- RTS continues one past the word it pulls. -/
theorem exec_rts {s u : State} {w : Word} (h : pull16 s = .ok w u) :
    exec .rts s = .next (tick 6 { u with pc := w + 1#16 }) := by
  have hexec : exec .rts s = returnFromSubroutine (costOf 0x60#8) s := rfl
  rw [hexec, returnFromSubroutine, h]
  rfl

/-- RTI returns from an interrupt and ticks its own cycles. -/
theorem exec_rti {s u : State} (h : returnFromInterrupt s = .ok () u) : exec .rti s = .next (tick 6 u) := by
  have hexec : exec .rti s = returnFromInterruptForm (costOf 0x40#8) s := rfl
  rw [hexec, returnFromInterruptForm, h]
  rfl

/-- BRK with I = 0 enters its interrupt and ticks its own cycles. -/
theorem exec_brk {s u : State} (hi : getFlag .i s.p = false) (h : interruptEntry .brk s = .ok () u) :
    exec .brk s = .next (tick 7 u) := by
  have hexec : exec .brk s = softwareBreak (costOf 0x00#8) s := rfl
  rw [hexec, softwareBreak, hi, if_neg Bool.false_ne_true, h]
  rfl

/-- Settles O21: the two cells are those of the word pushed. -/
theorem jsrPushesItsLastByteAddress : Obligations.JsrPushesItsLastByteAddress :=
  fun _ _ _ hbase hpc => exec_jsr hbase hpc

/-- Settles O22: RTS is one pull of a word, RTI a pull of the status and then of a word. -/
theorem returnsPullTheirFrame : Obligations.ReturnsPullTheirFrame :=
  fun _ hbase => ⟨exec_rts (pull16_ram hbase), exec_rti (returnFromInterrupt_ram hbase)⟩

/-- Settles O23: BRK with I = 0 is the interrupt entry through 0xFFFE, which lies in program ROM. -/
theorem brkTrapsThroughItsVectorWhenEnabled : Obligations.BrkTrapsThroughItsVectorWhenEnabled :=
  fun s hbase hvec hprg hi => exec_brk hi (interruptEntry_rom hbase (k := 0x7FFE)
    (show s.cfg.vecBrk.toNat = _ by rw [hvec]; rfl) hprg (by decide))

/-- Settles O27: JSR leaves its word on the stack, and RTS at the target pulls that word and continues one past it. -/
theorem jsrThenRtsReturnsAfterTheCall : Obligations.JsrThenRtsReturnsAfterTheCall := by
  intro addr opaddr s t hinv hbase hpc ht
  rw [exec_jsr hbase hpc] at ht
  cases ht
  have hback : opaddr + 2#16 + 1#16 = opaddr + 3#16 := BitVec.add_assoc opaddr 2#16 1#16
  refine ⟨_, exec_rts (pull16_pushedWord ?_ hinv.ram.1 rfl rfl), hback, rfl, rfl⟩
  exact hbase

end Sys2Proof.Proofs

/-! The stack and flag family (spec/44_stack_flags.md): the one-byte pushes and pulls with the stack page where R11 puts
it, a word pushed and pulled again, and the instructions that write one flag. -/

namespace Sys2Proof.Proofs

open Sys2Proof Sys2Proof.Machine Sys2Proof.Laws

/-! ## One byte on the stack (R220 to R223) -/

section
variable {i : Instr} {n : Nat} {s : State} (hbase : s.cfg.stackBase = 0x0100#16)
include hbase

/-- A push instruction writes its byte to the cell S names and moves S down. -/
theorem exec_push {value : State → Byte} (hk : kindOf i.mnemonic = .push value) (hn : (costOf i.opcode).cycles = n) :
    exec i s = .next (complete 0 n
      { s with ram := memWrite s.ram (0x100 + s.s.toNat) (value s), s := s.s - 1#8 }) := by
  rw [exec_eq_run, hk]
  change pushForm _ value s = _
  rw [pushForm, push8_ram _ hbase, andThen_ok, hn]
  rfl

/-- A pull instruction moves S up and applies its effect to the byte in the cell S then names. -/
theorem exec_pull {effect : Byte → State → State} (hk : kindOf i.mnemonic = .pull effect)
    (hn : (costOf i.opcode).cycles = n) :
    exec i s = .next (complete 0 n
      (effect (memRead s.ram (0x100 + (s.s + 1#8).toNat)) { s with s := s.s + 1#8 })) := by
  rw [exec_eq_run, hk]
  change pullForm _ effect s = _
  rw [pullForm, pull8_ram hbase, andThen_ok, hn]
  rfl

end

/-- The copy of P with Break and Break2 set has no other bit changed (R222). -/
theorem pushedStatus_0x30 (p : Byte) : pushedStatus 0x30#8 p = p ||| 0x30#8 := by
  apply status_ext
  intro f
  unfold getFlag pushedStatus
  cases f <;> simp [flagBit]

/-- Settles O25: PHA and PHP push A and the copy of P, and the effects of PLA and PLP are the updates stated. -/
theorem stackInstructionsPushAndPullOneByte : Obligations.StackInstructionsPushAndPullOneByte := by
  intro s v hbase hv
  subst hv
  refine ⟨exec_push (value := phaByte) hbase rfl rfl, ?_, exec_pull (effect := plaEffect) hbase rfl rfl,
    exec_pull (effect := plpEffect) hbase rfl rfl⟩
  rw [← pushedStatus_0x30]
  exact exec_push (value := phpByte) hbase rfl rfl

/-! ## A word pushed and pulled again (R51, R231) -/

/-- Settles O26: the push leaves the word in two cells that are apart even where S wraps, and the pull joins them. -/
theorem pushThenPullReturnsTheWord : Obligations.PushThenPullReturnsTheWord := by
  intro w s hinv hbase
  refine ⟨_, push16_ram hbase w, pull16_pushedWord ?_ hinv.ram.1 rfl rfl⟩
  exact hbase

/-! ## The flag instructions (R224 to R230) -/

/-- An implied instruction whose effect writes flag `f` sets that flag and keeps the seven others. -/
theorem exec_writesOneFlag {i : Instr} {f : Flag} {v : Bool} {effect : State → State}
    (hk : kindOf i.mnemonic = .implied effect) (heffect : ∀ s, effect s = { s with p := setFlag f v s.p }) (s : State) :
    ∃ p, exec i s = .next (complete 0 2 { s with p := p }) ∧
      getFlag f p = v ∧ ∀ g, g ≠ f → getFlag g p = getFlag g s.p := by
  refine ⟨setFlag f v s.p, ?_, getFlag_setFlag_self f v s.p, fun g hg => getFlag_setFlag_ne v s.p hg⟩
  rw [exec_implied hk, heffect]

/-- Settles O18: the effect of each of the seven writes its flag alone. -/
theorem flagInstructionsWriteOneFlag : Obligations.FlagInstructionsWriteOneFlag := by
  intro i f v hmem s
  simp only [List.mem_cons, Prod.mk.injEq, List.not_mem_nil, or_false] at hmem
  obtain ⟨rfl, rfl, rfl⟩ | ⟨rfl, rfl, rfl⟩ | ⟨rfl, rfl, rfl⟩ | ⟨rfl, rfl, rfl⟩ | ⟨rfl, rfl, rfl⟩ | ⟨rfl, rfl, rfl⟩ |
    ⟨rfl, rfl, rfl⟩ := hmem
  · exact exec_writesOneFlag (effect := clcEffect) rfl (fun _ => rfl) s
  · exact exec_writesOneFlag (effect := secEffect) rfl (fun _ => rfl) s
  · exact exec_writesOneFlag (effect := cliEffect) rfl (fun _ => rfl) s
  · exact exec_writesOneFlag (effect := seiEffect) rfl (fun _ => rfl) s
  · exact exec_writesOneFlag (effect := cldEffect) rfl (fun _ => rfl) s
  · exact exec_writesOneFlag (effect := sedEffect) rfl (fun _ => rfl) s
  · exact exec_writesOneFlag (effect := clvEffect) rfl (fun _ => rfl) s

end Sys2Proof.Proofs

/-! The unofficial family (spec/45_unofficial.md): the immediate form of the read instructions, the byte a modify
instruction writes back named by its value, and the two controlled stops. -/

namespace Sys2Proof.Proofs

open Sys2Proof Sys2Proof.Machine Sys2Proof.Laws

/-! ## The combinations on an immediate operand (R249 to R254) -/

/-- An instruction of the read kind on its immediate operand takes two cycles and accesses no memory. -/
theorem exec_immediate {i : Instr} {effect : Byte → State → State} {m : Byte} (hk : kindOf i.mnemonic = .read effect)
    (ho : i.operand = .immediate m) (s : State) : exec i s = .next (complete 1 2 (effect m s)) := by
  have h := exec_read hk (.inl ⟨ho, rfl, rfl⟩ : ReadsOperand i.operand s m false s)
  unfold Instr.length Instr.mode at h
  rw [ho] at h
  exact h

/-- Settles O9: the effect of each of the four is the update stated; the rotate of ARR takes the carry before it. -/
theorem immediateCombinationsRunTheirBuildingBlocks : Obligations.ImmediateCombinationsRunTheirBuildingBlocks := by
  intro i s m ho
  refine ⟨fun hm => exec_immediate (effect := ancEffect) (congrArg kindOf hm) ho s,
    fun hm => exec_immediate (effect := alrEffect) (congrArg kindOf hm) ho s, fun hm r hr => ?_,
    fun hm => exec_immediate (effect := axsEffect) (congrArg kindOf hm) ho s⟩
  rw [← rotateRight_eq] at hr
  subst hr
  exact exec_immediate (effect := arrEffect) (congrArg kindOf hm) ho s

/-- A byte ORed with the default magic parameter 0xFF masks nothing. -/
theorem or_0xFF_and (a b : Byte) : (a ||| 0xFF#8) &&& b = b := by
  change (a ||| BitVec.allOnes 8) &&& b = b
  rw [BitVec.or_allOnes, BitVec.allOnes_and]

/-- Settles O10: the effects are the formulas of the spec, and under the default parameters A drops out of them. -/
theorem unstableLoadsFollowTheirMagicFormulas : Obligations.UnstableLoadsFollowTheirMagicFormulas := by
  intro i s m ho
  refine ⟨fun hm r hr => ?_, fun hm r hr => ?_⟩ <;> subst hr
  · refine ⟨exec_immediate (effect := xaaEffect) (congrArg kindOf hm) ho s, fun hmagic => ?_⟩
    rw [hmagic, or_0xFF_and]
  · refine ⟨exec_immediate (effect := lxaEffect) (congrArg kindOf hm) ho s, fun hmagic => ?_⟩
    rw [hmagic, or_0xFF_and]

/-! ## The stores under the mask of the base (R256 to R259) -/

/-- Settles O13: AHX, SHY and SHX are stores that do nothing before the write, TAS one that sets S first. -/
theorem highByteStoresMaskWithBasePlusOne : Obligations.HighByteStoresMaskWithBasePlusOne := by
  intro i s pl w v w' u hv h
  obtain ⟨hm, rfl, rfl⟩ | ⟨hm, rfl, rfl⟩ | ⟨hm, rfl, rfl⟩ | ⟨hm, rfl, rfl⟩ := hv
  · exact exec_store (before := id) (value := ahxValue) (congrArg kindOf hm) h
  · exact exec_store (before := id) (value := shyValue) (congrArg kindOf hm) h
  · exact exec_store (before := id) (value := shxValue) (congrArg kindOf hm) h
  · exact exec_store (before := tasBefore) (value := tasValue) (congrArg kindOf hm) h

/-! ## The combined modify instructions (R240 to R248) -/

/-- A modify instruction whose result is `r` in every state with the P before it writes `r` back and applies its effect
to it: the read leaves P, so a rotate takes the carry before the instruction (R240). -/
theorem exec_modify_result {i : Instr} {result : Byte → State → Byte} {effect : Byte → Byte → State → State}
    {onA : State → State} {s w u : State} {v r : Byte} (hk : kindOf i.mnemonic = .modify result effect onA)
    (hresult : ∀ t : State, t.p = s.p → result v t = r) (h : ModifiesOperand i.operand s v w r u) :
    exec i s = .next (complete (i.length - 1) (modifyCycles i.mode) (effect v r u)) := by
  have hr : result v w = r := hresult w (p_eq_of_modifiesOperand h)
  subst hr
  exact exec_modify hk h

/-- Settles O16: each of the six writes back the result of its first block, and its effect runs the second block on that
byte. -/
theorem combinedModifyInstructionsRunBothBlocks : Obligations.CombinedModifyInstructionsRunBothBlocks := by
  intro i s v w r u h
  refine ⟨fun hm hr => ?_, fun hm hr => ?_, fun hm hr => ?_, fun hm hr sum hsum => ?_, fun hm hr => ?_,
    fun hm hr sum hsum => ?_⟩
  · exact exec_modify_result (effect := sloEffect) (congrArg kindOf hm) (fun _ _ => hr.symm) h
  · exact exec_modify_result (effect := rlaEffect) (congrArg kindOf hm)
      (fun _ hp => hr ▸ hp ▸ rotateLeft_eq v _) h
  · exact exec_modify_result (effect := sreEffect) (congrArg kindOf hm) (fun _ _ => hr.symm) h
  · subst hsum
    exact exec_modify_result (effect := rraEffect) (congrArg kindOf hm)
      (fun _ hp => hr ▸ hp ▸ rotateRight_eq v _) h
  · exact exec_modify_result (effect := dcpEffect) (congrArg kindOf hm) (fun _ _ => hr.symm) h
  · subst hsum
    exact exec_modify_result (effect := isbEffect) (congrArg kindOf hm) (fun _ _ => hr.symm) h

/-! ## The controlled stops (R197, R262, R306) -/

/-- JAM stops the core. -/
theorem exec_jam {i : Instr} (hm : i.mnemonic = .jam) (s : State) :
    exec i s = .next { s with status := .stopped .jam } := by
  rw [exec_eq_run, hm]
  rfl

/-- BRK with I = 1 stops the core. -/
theorem exec_brk_masked {i : Instr} {s : State} (hm : i.mnemonic = .brk) (hi : getFlag .i s.p = true) :
    exec i s = .next { s with status := .stopped .brk } := by
  rw [exec_eq_run, hm]
  change softwareBreak _ s = _
  rw [softwareBreak, hi, if_pos rfl]
  rfl

/-- Settles O24: JAM raises its stop, and BRK raises its own where I is set. -/
theorem jamAndMaskedBrkStopTheCore : Obligations.JamAndMaskedBrkStopTheCore :=
  fun _ s => ⟨fun hm => exec_jam hm s, exec_brk_masked⟩

end Sys2Proof.Proofs

/-! The exceptions family (spec/60_exceptions.md): the PPU registers behind their window, the memory behind Data, the NMI
from its entry to the RTI, and where a raise leaves an instruction and a step. -/

namespace Sys2Proof.Proofs

open Sys2Proof Sys2Proof.Machine Sys2Proof.Laws

/-! ## The register window (R54, R330) -/

/-- The number of a register: the low three bits of its CPU addresses (R54). -/
def ppuRegNumber : PpuReg → Nat
  | .control => 0
  | .mask => 1
  | .status => 2
  | .oamAddr => 3
  | .oamData => 4
  | .scroll => 5
  | .address => 6
  | .data => 7

theorem ppuRegOf_of_number {addr : Word} {reg : PpuReg} (h : addr.toNat % 8 = ppuRegNumber reg) :
    ppuRegOf addr = reg := by
  unfold ppuRegOf
  rw [h]
  cases reg <;> rfl

section
variable {addr : Word} {s : State} {q : Ppu} {v : Byte} (hw : InPpuWindow addr)
include hw

/-- A read of a readable register leaves the PPU that register's read does. -/
theorem busRead_reg (reg : PpuReg) (hr : addr.toNat % 8 = ppuRegNumber reg)
    (h : ppuRegRead s.rom s.ppu reg = some (v, q)) : busRead addr s = .ok v { s with ppu := q } := by
  rw [busRead_ppu s hw, ppuRegOf_of_number hr, h]

/-- A write of a writable register leaves the PPU that register's write does. -/
theorem busWrite_reg (reg : PpuReg) (hr : addr.toNat % 8 = ppuRegNumber reg)
    (h : ppuRegWrite s.rom v s.ppu reg = some q) : busWrite addr v s = .ok () { s with ppu := q } := by
  rw [busWrite_ppu s v hw, ppuRegOf_of_number hr, h]

theorem busRead_writeOnly_fatal (hf : s.cfg.invalidAccess = .fatal) (hr : addr.toNat % 8 ∈ [0, 1, 3, 5, 6]) :
    busRead addr s = .raised { s with status := .faulted (.invalidAccess .readWriteOnly addr) } := by
  rw [busRead_writeOnly hw hr, violation_fatal _ _ _ hf]

end

/-- Settles O33: the read of Status, and its write as a violation. -/
theorem statusReadClearsVblankAndLatch : Obligations.StatusReadClearsVblankAndLatch := by
  intro addr s hw hr
  refine ⟨busRead_reg hw .status hr rfl, fun hf v => ?_⟩
  rw [busWrite_status hw v hr, violation_fatal _ _ _ hf]

/-- Settles O34: the request after `ctrlWrite` is the old one or the three conditions of the edge. -/
theorem controlWriteRaisesNmiOnTheEnableEdge : Obligations.ControlWriteRaisesNmiOnTheEnableEdge := by
  intro addr v s hw hr
  refine ⟨⟨_, busWrite_reg hw .control hr rfl, ?_⟩, fun hf => busRead_writeOnly_fatal hw hf (by simp [hr])⟩
  rw [Bool.or_eq_true, Bool.and_eq_true, Bool.and_eq_true, Bool.not_eq_true', and_assoc]

/-- Settles O35: the two writes, and the two registers among the write-only ones. -/
theorem maskAndOamAddressWritesStore : Obligations.MaskAndOamAddressWritesStore := by
  intro addr v s hw
  refine ⟨fun hr => busWrite_reg hw .mask hr rfl, fun hr => busWrite_reg hw .oamAddr hr rfl, fun hr hf => ?_⟩
  have hsub : [1, 3] ⊆ [0, 1, 3, 5, 6] := by decide
  exact busRead_writeOnly_fatal hw hf (hsub hr)

/-! ## Scroll and Address behind their latch (R339, R340) -/

/-- The 14-bit address with the given byte below six bits. -/
theorem toNat_append_byte (hi : BitVec 6) (lo : Byte) : (hi ++ lo).toNat = hi.toNat * 256 + lo.toNat := by
  rw [BitVec.toNat_append, Nat.shiftLeft_eq, Nat.mul_comm, ← Nat.two_pow_add_eq_or_of_lt lo.isLt]

section
variable {p : Ppu} (v : Byte)

theorem scrollWrite_first (h : p.w = false) : scrollWrite v p = { p with scrollV := v, w := true } := by
  rw [scrollWrite, h, if_neg Bool.false_ne_true]

theorem scrollWrite_second (h : p.w = true) : scrollWrite v p = { p with scrollH := v, w := false } := by
  rw [scrollWrite, h, if_pos rfl]

/-- The first Address write: the byte, cut to 14 bits, above the old low byte. -/
theorem addrWrite_first (h : p.w = false) :
    addrWrite v p = { p with addr := BitVec.ofNat 14 (v.toNat * 256 + p.addr.toNat % 256), w := true } := by
  have haddr : v.extractLsb' 0 6 ++ p.addr.extractLsb' 0 8 =
      BitVec.ofNat 14 (v.toNat * 256 + p.addr.toNat % 256) := by
    apply BitVec.eq_of_toNat_eq
    rw [toNat_append_byte, BitVec.extractLsb'_toNat, BitVec.extractLsb'_toNat, BitVec.toNat_ofNat, Nat.shiftRight_zero,
      Nat.shiftRight_zero]
    omega
  rw [addrWrite, h, if_neg Bool.false_ne_true, haddr]

/-- The second Address write: the byte below the old high byte. -/
theorem addrWrite_second (h : p.w = true) :
    addrWrite v p = { p with addr := BitVec.ofNat 14 (p.addr.toNat / 256 * 256 + v.toNat), w := false } := by
  have haddr : p.addr.extractLsb' 8 6 ++ v = BitVec.ofNat 14 (p.addr.toNat / 256 * 256 + v.toNat) := by
    apply BitVec.eq_of_toNat_eq
    rw [toNat_append_byte, BitVec.extractLsb'_toNat, BitVec.toNat_ofNat, Nat.shiftRight_eq_div_pow]
    omega
  rw [addrWrite, h, if_pos rfl, haddr]

/-- Two Address writes from the first on: both bytes of the address, cut to 14 bits. -/
theorem addrWrite_pair (lo : Byte) (h : p.w = false) :
    addrWrite lo (addrWrite v p) = { p with addr := BitVec.ofNat 14 (v.toNat * 256 + lo.toNat), w := false } := by
  have haddr : BitVec.ofNat 14 ((BitVec.ofNat 14 (v.toNat * 256 + p.addr.toNat % 256)).toNat / 256 * 256 + lo.toNat) =
      BitVec.ofNat 14 (v.toNat * 256 + lo.toNat) := by
    apply BitVec.eq_of_toNat_eq
    rw [BitVec.toNat_ofNat, BitVec.toNat_ofNat, BitVec.toNat_ofNat]
    omega
  rw [addrWrite_first v h, addrWrite_second lo rfl, haddr]

end

/-- Settles O36: each write is the first or the second of its register by the latch, which the write before it left. -/
theorem scrollAndAddressShareOneLatch : Obligations.ScrollAndAddressShareOneLatch := by
  intro scroll address v v2 s hws hs hwa ha
  have hscroll : busWrite scroll v s = .ok () { s with ppu := scrollWrite v s.ppu } := busWrite_reg hws .scroll hs rfl
  have haddress : ∀ b t, busWrite address b t = .ok () { t with ppu := addrWrite b t.ppu } :=
    fun b t => busWrite_reg hwa .address ha rfl
  refine ⟨fun h => ⟨?_, ?_, ?_, ?_⟩, fun h => ⟨?_, ?_⟩, fun hf => ⟨?_, ?_⟩⟩
  · rw [hscroll, scrollWrite_first v h]
  · rw [haddress, addrWrite_first v h]
  · rw [haddress, andThen_ok, haddress, addrWrite_pair v v2 h]
  · rw [hscroll, andThen_ok, haddress, scrollWrite_first v h, addrWrite_second v2 rfl]
  · rw [hscroll, scrollWrite_second v h]
  · rw [haddress, addrWrite_second v h]
  · exact busRead_writeOnly_fatal hws hf (by simp [hs])
  · exact busRead_writeOnly_fatal hwa hf (by simp [ha])

/-! ## The memory behind Data and OAM-data (R337, R341 to R345) -/

/-- The index of byte `off` of logical name table `nt` (R345). -/
theorem ntMap_table (layout : NtLayout) {nt off : Nat} (hnt : nt < 4) (hoff : off < 0x400) :
    ntMap layout (0x2000 + nt * 0x400 + off) = ntHalf layout nt * 0x400 + off := by
  have htable : (0x2000 + nt * 0x400 + off - 0x2000) % 0x1000 / 0x400 = nt := by omega
  have hbyte : (0x2000 + nt * 0x400 + off - 0x2000) % 0x400 = off := by omega
  rw [ntMap, htable, hbyte]

/-- Settles O39: the index is the half of the table and the byte in it, and the halves of the four tables are as
stated. -/
theorem nameTablesFoldOntoTwoHalves : Obligations.NameTablesFoldOntoTwoHalves := by
  intro layout nt off hnt hoff
  refine ⟨?_, ntMap_lt _ _⟩
  rw [ntMap_table layout hnt hoff]
  cases layout <;> dsimp only [ntHalf] <;> split <;> omega

section
variable {layout : NtLayout} {a : PpuAddr}

theorem ppuMap_pattern (h : a.toNat < 0x2000) : ppuMap layout a = .chr a.toNat := by
  rw [ppuMap, if_pos h]

/-- The name tables and their mirror at 0x3000 lead to the same VRAM cells (R343). -/
theorem ppuMap_nameTable (hlo : 0x2000 ≤ a.toNat) (hhi : a.toNat < 0x3F00) :
    ppuMap layout a = .vram (ntMap layout (0x2000 + a.toNat % 0x1000)) := by
  rw [ppuMap, if_neg (by omega)]
  by_cases h : a.toNat < 0x3000
  · have hself : 0x2000 + a.toNat % 0x1000 = a.toNat := by omega
    rw [if_pos h, hself]
  · have hmirror : 0x2000 + a.toNat % 0x1000 = a.toNat - 0x1000 := by omega
    rw [if_neg h, if_pos hhi, hmirror]

theorem ppuMap_palette (h : 0x3F00 ≤ a.toNat) : ppuMap layout a = .pal (a.toNat % 0x20) := by
  rw [ppuMap, if_neg (by omega), if_neg (by omega), if_neg (by omega)]

end

/-- The next address is the sum modulo 0x4000 (R341). -/
theorem ppuNextAddr_eq (p : Ppu) :
    ppuNextAddr p = BitVec.ofNat 14 (p.addr.toNat + if p.ctrl.getLsbD 2 then 32 else 1) := by
  rw [ppuNextAddr, BitVec.ofNat_add, BitVec.ofNat_toNat, BitVec.setWidth_eq]
  split <;> rfl

section
variable {rom : Rom} {p : Ppu}

theorem dataRead_buffered (h : p.addr.toNat < 0x3F00) :
    dataRead rom p = (p.buf, { p with buf := ppuMemRead rom p p.addr, addr := ppuNextAddr p }) := by
  rw [dataRead, if_neg (by omega)]

theorem dataRead_palette (h : 0x3F00 ≤ p.addr.toNat) :
    dataRead rom p = (memRead p.pal (p.addr.toNat % 0x20), { p with addr := ppuNextAddr p }) := by
  rw [dataRead, if_pos h]

theorem ppuMemRead_pattern (h : p.addr.toNat < 0x2000) :
    ppuMemRead rom p p.addr = memRead rom.chr p.addr.toNat := by
  rw [ppuMemRead, ppuMap_pattern h]

theorem ppuMemRead_nameTable (hlo : 0x2000 ≤ p.addr.toNat) (hhi : p.addr.toNat < 0x3F00) :
    ppuMemRead rom p p.addr = memRead p.vram (ntMap rom.mirroring (0x2000 + p.addr.toNat % 0x1000)) := by
  rw [ppuMemRead, ppuMap_nameTable hlo hhi]

variable (v : Byte)

theorem dataWrite_pattern (h : p.addr.toNat < 0x2000) : dataWrite rom v p = { p with addr := ppuNextAddr p } := by
  rw [dataWrite, ppuMemWrite, ppuMap_pattern h]

theorem dataWrite_nameTable (hlo : 0x2000 ≤ p.addr.toNat) (hhi : p.addr.toNat < 0x3F00) :
    dataWrite rom v p = { p with
      vram := memWrite p.vram (ntMap rom.mirroring (0x2000 + p.addr.toNat % 0x1000)) v
      addr := ppuNextAddr p } := by
  rw [dataWrite, ppuMemWrite, ppuMap_nameTable hlo hhi]

theorem dataWrite_palette (h : 0x3F00 ≤ p.addr.toNat) :
    dataWrite rom v p = { p with pal := memWrite p.pal (p.addr.toNat % 0x20) v, addr := ppuNextAddr p } := by
  rw [dataWrite, ppuMemWrite, ppuMap_palette h]

end

section
variable {data : Word} (hw : InPpuWindow data) (hr : data.toNat % 8 = 7) (s : State)
include hw hr

theorem busRead_data : busRead data s =
    .ok (dataRead s.rom s.ppu).1 { s with ppu := (dataRead s.rom s.ppu).2 } := busRead_reg hw .data hr rfl

/-- Below the palette the read returns the buffer, which the addressed byte refills (R341). -/
theorem busRead_data_buffered (h : s.ppu.addr.toNat < 0x3F00) : busRead data s =
    .ok s.ppu.buf { s with ppu :=
      { s.ppu with buf := ppuMemRead s.rom s.ppu s.ppu.addr, addr := ppuNextAddr s.ppu } } := by
  rw [busRead_data hw hr, dataRead_buffered h]

theorem busWrite_data (v : Byte) : busWrite data v s = .ok () { s with ppu := dataWrite s.rom v s.ppu } :=
  busWrite_reg hw .data hr rfl

end

/-- Settles O37: the read by the range of the address, which decides both the byte returned and what fills the buffer. -/
theorem dataReadLagsByOneExceptThePalette : Obligations.DataReadLagsByOneExceptThePalette := by
  intro addr s next hw hr hnext
  rw [← ppuNextAddr_eq] at hnext
  subst hnext
  refine ⟨fun h => ?_, fun hlo hhi => ?_, fun h => ?_⟩
  · rw [busRead_data_buffered hw hr s (by omega), ppuMemRead_pattern h]
  · rw [busRead_data_buffered hw hr s hhi, ppuMemRead_nameTable hlo hhi]
  · rw [busRead_data hw hr, dataRead_palette h]

/-- Settles O38: the write of Data by the range of the address, and the two accesses of OAM-data at its cursor. -/
theorem dataAndOamWritesStoreAndAdvance : Obligations.DataAndOamWritesStoreAndAdvance := by
  intro data oam v s next hw hr hwo hro hnext
  rw [← ppuNextAddr_eq] at hnext
  subst hnext
  refine ⟨fun h => ?_, fun hlo hhi => ?_, fun h => ?_, busWrite_reg hwo .oamData hro rfl,
    busRead_reg hwo .oamData hro rfl⟩
  · rw [busWrite_data hw hr, dataWrite_pattern v h]
  · rw [busWrite_data hw hr, dataWrite_nameTable v hlo hhi]
  · rw [busWrite_data hw hr, dataWrite_palette v h]

/-! ## A byte written through Data and read back (R346) -/

section
variable {hi lo : Byte} {a : PpuAddr} {s : State} (hw : s.ppu.w = false) (ha : hi.toNat * 256 + lo.toNat = a.toNat)
include hw ha

/-- An Address pair from the first write on sets the address (R340). -/
theorem busWrite_addressPair :
    ∃ t, busWrite 0x2006#16 hi s = .ok () t ∧
      busWrite 0x2006#16 lo t = .ok () { s with ppu := { s.ppu with addr := a, w := false } } := by
  refine ⟨_, busWrite_reg (by decide) .address rfl rfl, ?_⟩
  rw [busWrite_reg (by decide) .address rfl rfl, addrWrite_pair hi lo hw, ha, BitVec.ofNat_toNat, BitVec.setWidth_eq]

variable (hlo : 0x2000 ≤ a.toNat)
include hlo

/-- An Address pair and a Data write store the byte in the name-table cell addressed, leave the latch clear, and change
neither Control, the buffer nor the cartridge (R342). -/
theorem busWrite_addressPair_data (b : Byte) (hhi : a.toNat < 0x3F00) :
    ∃ t u w, busWrite 0x2006#16 hi s = .ok () t ∧ busWrite 0x2006#16 lo t = .ok () u ∧
      busWrite 0x2007#16 b u = .ok () w ∧
      w.ppu.vram = memWrite s.ppu.vram (ntMap s.rom.mirroring (0x2000 + a.toNat % 0x1000)) b ∧
      w.ppu.w = false ∧ w.ppu.ctrl = s.ppu.ctrl ∧ w.ppu.buf = s.ppu.buf ∧ w.rom = s.rom := by
  obtain ⟨t, hfirst, hsecond⟩ := busWrite_addressPair hw ha
  have hdata := busWrite_data (data := 0x2007#16) (by decide) rfl { s with ppu := { s.ppu with addr := a, w := false } } b
  rw [dataWrite_nameTable b hlo hhi] at hdata
  exact ⟨t, _, _, hfirst, hsecond, hdata, rfl, rfl, rfl, rfl, rfl⟩

/-- An Address pair and two Data reads return the buffer and then the name-table byte addressed, where the next address
is below the palette too (R341). -/
theorem busRead_addressPair_data (hhi : a.toNat + (if s.ppu.ctrl.getLsbD 2 then 32 else 1) < 0x3F00) :
    ∃ t u u' u'', busWrite 0x2006#16 hi s = .ok () t ∧ busWrite 0x2006#16 lo t = .ok () u ∧
      busRead 0x2007#16 u = .ok s.ppu.buf u' ∧
      busRead 0x2007#16 u' = .ok (memRead s.ppu.vram (ntMap s.rom.mirroring (0x2000 + a.toNat % 0x1000))) u'' := by
  have hbelow : a.toNat < 0x3F00 := by omega
  have hnext : (ppuNextAddr { s.ppu with addr := a }).toNat < 0x3F00 := by
    rw [ppuNextAddr_eq, BitVec.toNat_ofNat]
    exact Nat.lt_of_le_of_lt (Nat.mod_le _ _) hhi
  obtain ⟨t, hfirst, hsecond⟩ := busWrite_addressPair hw ha
  have hcell := ppuMemRead_nameTable (rom := s.rom) (p := { s.ppu with addr := a, w := false }) hlo hbelow
  rw [← hcell]
  exact ⟨t, _, _, _, hfirst, hsecond, busRead_data_buffered (by decide) rfl _ hbelow,
    busRead_data_buffered (by decide) rfl _ hnext⟩

end

/-- Settles O40: the second Address pair brings the address back to the cell written, and the second read returns it. -/
theorem dataWrittenIsReadBackOneReadLater : Obligations.DataWrittenIsReadBackOneReadLater := by
  intro a hi lo b s hinv hlo hhi hlatch ha
  obtain ⟨s1, s2, s3, h1, h2, h3, hvram, hlatch, hctrl, hbuf, hrom⟩ :=
    busWrite_addressPair_data hlatch ha hlo b (by omega)
  rw [← hctrl] at hhi
  obtain ⟨s4, s5, s6, s7, h4, h5, h6, h7⟩ := busRead_addressPair_data hlatch ha hlo hhi
  rw [hvram, hrom, memRead_memWrite_self _ _ hinv.vram.1] at h7
  exact ⟨s1, s2, s3, s4, s5, s6, s7, _, h1, h2, h3, h4, h5, h6, h7, hbuf⟩

/-! ## The NMI (R320, R321, R323, R350) -/

/-- The poll enters a pending NMI through its vector in ROM (R350). -/
theorem pollNmi_rom {s : State} (hpending : s.ppu.nmiPending = true) (hbase : s.cfg.stackBase = 0x0100#16)
    (hvec : s.cfg.vecNmi = 0xFFFA#16) (hprg : s.cfg.prgBase = 0x8000#16) :
    pollNmi s = .ok () (tick s.cfg.nmiCycles
      { s with
        ppu := { s.ppu with nmiPending := false }
        ram := memWrite (pushedWord s.pc s.s s.ram) (0x100 + (s.s - 2#8).toNat) (pushedStatus 0x20#8 s.p)
        s := s.s - 3#8
        p := setFlag .i true s.p
        pc := joinBytes (memRead s.rom.prg (0x7FFB % s.rom.prgSize.bytes))
          (memRead s.rom.prg (0x7FFA % s.rom.prgSize.bytes)) }) := by
  rw [pollNmi, if_pos hpending, interruptEntry_rom (k := 0x7FFA)]
  · rfl
  · exact hbase
  · change s.cfg.vecNmi.toNat = _
    rw [hvec]
    rfl
  · exact hprg
  · decide

/-- Settles O42: the poll is the entry through 0xFFFA, which lies in program ROM. -/
theorem pendingNmiIsEnteredBeforeTheFetch : Obligations.PendingNmiIsEnteredBeforeTheFetch := by
  intro s
  refine ⟨fun hnone => ?_, pollNmi_rom⟩
  rw [pollNmi, hnone, if_neg Bool.false_ne_true]

/-- The return from an interrupt undoes a frame pushed from stack pointer `sp`, as long as RAM and S are as the pushes
left them and the status pushed was a live one (R323). -/
theorem returnFromInterrupt_frame {s : State} {m : Memory} {w : Word} {sp mask p : Byte}
    (hbase : s.cfg.stackBase = 0x0100#16) (hm : memoryWf m = true)
    (hram : s.ram = memWrite (pushedWord w sp m) (0x100 + (sp - 2#8).toNat) (pushedStatus mask p))
    (hs : s.s = sp - 3#8) (hmask : mask &&& 0xCF#8 = 0x00#8) (hb : getFlag .b p = false) (hu : getFlag .u p = true) :
    returnFromInterrupt s =
      .ok () { s with s := sp, p := p, pc := w + BitVec.ofNat 16 s.cfg.rtiPcAdjust.val } := by
  have hframe : memoryWf (pushedWord w sp m) = true := memWrite_wf _ _ (memWrite_wf _ _ hm)
  have htop : s.s + 3#8 = sp := by bv_omega
  have hmiddle : s.s + 2#8 = sp - 1#8 := by bv_omega
  have hbottom : s.s + 1#8 = sp - 2#8 := by bv_omega
  have hne : 0x100 + sp.toNat ≠ 0x100 + (sp - 2#8).toNat := by bv_omega
  have hne' : 0x100 + (sp - 1#8).toNat ≠ 0x100 + (sp - 2#8).toNat := by bv_omega
  rw [returnFromInterrupt_ram hbase, htop, hmiddle, hbottom, hram, memRead_memWrite_self _ _ hframe,
    memRead_memWrite_ne _ _ hne, memRead_memWrite_ne _ _ hne', joinBytes_pushedWord hm,
    pulledStatus_pushedStatus hmask hb hu]

/-- Settles O43: the entry leaves its frame on the stack, and RTI pulls that frame. -/
theorem nmiThenRtiResumesTheProgram : Obligations.NmiThenRtiResumesTheProgram := by
  intro s t hinv hpending hbase hvec hprg hadjust ht
  rw [pollNmi_rom hpending hbase hvec hprg] at ht
  cases ht
  refine ⟨_, exec_rti (returnFromInterrupt_frame hbase hinv.ram.1 rfl rfl rfl hinv.breakClear hinv.break2Set), ?_, rfl,
    rfl, rfl, rfl, rfl⟩
  change s.pc + BitVec.ofNat 16 s.cfg.rtiPcAdjust.val = s.pc
  rw [hadjust]
  exact BitVec.add_zero s.pc

/-! ## A raise in a step's beginning (R305) -/

/-- An opcode fetch that raises has moved pc past the opcode byte (log 7). -/
theorem fetch_opcodeRaised {t u : State} (h : busRead t.pc t = .raised u) :
    fetch t = .raised { u with pc := t.pc + 1#16 } := by
  rw [fetch, busRead_setPc, h, Access.setPc_raised, andThen_raised]

/-- An operand fetch that raises has moved pc past the opcode byte and not past the operands (D44). -/
theorem fetch_operandRaised {t u w : State} {op : Byte} (hop : busRead t.pc t = .ok op w)
    (h : readBytes (operandCount op) (t.pc + 1#16) w = .raised u) :
    fetch t = .raised { u with pc := t.pc + 1#16 } := by
  rw [fetch, busRead_setPc, hop, Access.setPc_ok, andThen_ok, readBytes_setPc, h, Access.setPc_raised, andThen_raised]

/-- Settles O45: a step's beginning is the NMI entry and then the fetch, and its raise ends the step. -/
theorem faultingFetchEndsTheStep : Obligations.FaultingFetchEndsTheStep := by
  intro s hrun
  refine ⟨fun u hentry => step_beginRaised hrun (beginStep_entryRaised hentry), fun t hpoll => ⟨fun u h => ?_,
    fun op w u hop h => ?_⟩⟩
  · exact step_beginRaised hrun ((beginStep_polled hpoll).trans (fetch_opcodeRaised h))
  · exact step_beginRaised hrun ((beginStep_polled hpoll).trans (fetch_operandRaised hop h))

/-! ## A raise in an instruction (R109, R259, R305) -/

/-- An access's answer with S replaced in the state it leaves. -/
def setAccessS {α : Type} (b : Byte) : Access α → Access α
  | .ok v s => .ok v { s with s := b }
  | .raised s => .raised { s with s := b }

/-- A bus write neither looks at S nor writes it. -/
theorem busWrite_setS (addr : Word) (v b : Byte) (s : State) :
    busWrite addr v { s with s := b } = setAccessS b (busWrite addr v s) := by
  have hregion : regionOf { s with s := b } addr = regionOf s addr := rfl
  have hviolation : ∀ kind, violation kind addr () { s with s := b } = setAccessS b (violation kind addr () s) := by
    intro kind
    dsimp only [violation]
    cases s.cfg.invalidAccess <;> rfl
  unfold busWrite
  rw [hregion]
  cases regionOf s addr with
  | ram k => rfl
  | unmapped => rfl
  | rom k => exact hviolation .writeRom
  | ppu reg =>
    dsimp only
    cases ppuRegWrite s.rom v s.ppu reg with
    | some q => rfl
    | none => exact hviolation .writeStatus

section
variable {m : MemForm} {c : Cost} {s w t : State} {pl : Place} (hpl : resolve m s = .ok pl w)
include hpl

theorem readForm_raised {effect : Byte → State → State} (h : busRead pl.ea w = .raised t) :
    readForm m c effect s = .next t := by
  rw [readForm, hpl, andThen_ok, h]
  rfl

theorem storeForm_raised {before : State → State} {value : Place → State → Byte}
    (h : busWrite pl.ea (value pl (before w)) (before w) = .raised t) : storeForm m c before value s = .next t := by
  rw [storeForm, hpl, andThen_ok, h]
  rfl

variable {result : Byte → State → Byte} {effect : Byte → Byte → State → State}

theorem rmwForm_readRaised (h : busRead pl.ea w = .raised t) : rmwForm m c result effect s = .next t := by
  rw [rmwForm, hpl, andThen_ok, h]
  rfl

theorem rmwForm_writeRaised {v : Byte} {u : State} (hread : busRead pl.ea w = .ok v u)
    (h : busWrite pl.ea (result v u) u = .raised t) : rmwForm m c result effect s = .next t := by
  rw [rmwForm, hpl, andThen_ok, hread, andThen_ok, h]
  rfl

end

theorem kindOf_reads {m : Mnemonic} (h : m.reads = true) : ∃ effect, kindOf m = .read effect := by
  cases m
  case lda | ldx | ldy | adc | sbc | cmp | cpx | cpy | and | ora | eor | bit | lax | las | anc | alr | arr | axs | xaa |
      lxa | nop => exact ⟨_, rfl⟩
  all_goals cases h

/-- Of the stores only TAS writes a register before the memory (R259). -/
theorem kindOf_stores_ne_tas {m : Mnemonic} (h : m.stores = true) (hne : m ≠ .tas) :
    ∃ value, kindOf m = .store id value := by
  cases m
  case sta | stx | sty | sax | ahx | shy | shx => exact ⟨_, rfl⟩
  case tas => exact absurd rfl hne
  all_goals cases h

/-- A jump through a pointer ends where the read of one of its two bytes raises. -/
theorem exec_jmpInd_raised {ptr : Word} {s t : State} (h : resolveIndirect ptr s = .raised t) :
    exec (.jmpInd ptr) s = .next t := by
  have hexec : exec (.jmpInd ptr) s = jumpIndirect ptr (costOf 0x6C#8) s := rfl
  rw [hexec, jumpIndirect, h]
  rfl

section
variable {i : Instr} {m : MemForm} {s w t : State} {pl : Place} (ho : i.operand = .memory m)
  (hpl : resolve m s = .ok pl w)
include ho hpl

/-- An instruction whose operand read raises ends in the state of that read. -/
theorem exec_readRaised (hi : i.mnemonic.reads = true ∨ i.mnemonic.modifies = true)
    (h : busRead pl.ea w = .raised t) : exec i s = .next t := by
  rw [exec_eq_run, ho]
  obtain hi | hi := hi
  · obtain ⟨effect, hk⟩ := kindOf_reads hi
    rw [hk]
    exact readForm_raised hpl h
  · obtain ⟨result, effect, onA, hk⟩ := kindOf_modifies hi
    rw [hk]
    exact rmwForm_readRaised hpl h

/-- An instruction whose write back raises ends in the state of that write, whatever the byte. -/
theorem exec_writeBackRaised {v : Byte} {u : State} (hi : i.mnemonic.modifies = true)
    (hread : busRead pl.ea w = .ok v u) (h : ∀ r, ∃ t', busWrite pl.ea r u = .raised t') :
    exec i s = .next { u with status := .faulted (.invalidAccess
      (if InPpuWindow pl.ea then .writeStatus else .writeRom) pl.ea) } := by
  obtain ⟨result, effect, onA, hk⟩ := kindOf_modifies hi
  obtain ⟨t', ht⟩ := h (result v u)
  rw [exec_eq_run, ho, hk, ← busWrite_raised ht]
  exact rmwForm_writeRaised hpl hread ht

/-- A store whose write raises ends in the state of that write, whatever the byte (R133). -/
theorem exec_storeRaised (hi : i.mnemonic.stores = true) (hne : i.mnemonic ≠ .tas)
    (h : ∀ v, ∃ t', busWrite pl.ea v w = .raised t') :
    exec i s = .next { w with status := .faulted (.invalidAccess
      (if InPpuWindow pl.ea then .writeStatus else .writeRom) pl.ea) } := by
  obtain ⟨value, hk⟩ := kindOf_stores_ne_tas hi hne
  obtain ⟨t', ht⟩ := h (value pl w)
  rw [exec_eq_run, ho, hk, ← busWrite_raised ht]
  exact storeForm_raised (before := id) hpl ht

/-- TAS whose write raises ends in the state of that write with S already written (R259). -/
theorem exec_tasRaised (hi : i.mnemonic = .tas) (h : ∀ v, ∃ t', busWrite pl.ea v w = .raised t') :
    exec i s = .next { w with
      s := w.a &&& w.x
      status := .faulted (.invalidAccess (if InPpuWindow pl.ea then .writeStatus else .writeRom) pl.ea) } := by
  obtain ⟨t', ht⟩ := h (tasValue pl (tasBefore w))
  have hwrite : busWrite pl.ea (tasValue pl (tasBefore w)) (tasBefore w) = .raised { t' with s := w.a &&& w.x } :=
    (busWrite_setS _ _ _ w).trans (congrArg (setAccessS (w.a &&& w.x)) ht)
  rw [busWrite_raised ht] at hwrite
  rw [exec_eq_run, ho, hi]
  exact storeForm_raised hpl hwrite

end

/-- Settles O32: the forms run their accesses in sequence, and the first raise ends the sequence. -/
theorem raisedAccessEndsTheInstruction : Obligations.RaisedAccessEndsTheInstruction := by
  refine ⟨fun ptr s t => ⟨fun hlo => ?_, fun lo u hlo hhi => ?_⟩, fun i m s pl w t ho hpl =>
    ⟨exec_readRaised ho hpl, fun hi v u hread => exec_writeBackRaised ho hpl hi hread, exec_storeRaised ho hpl,
      exec_tasRaised ho hpl⟩⟩
  · apply exec_jmpInd_raised
    rw [resolveIndirect, busReadPair, hlo, andThen_raised]
  · rw [← indirectHighAddr_eq] at hhi
    apply exec_jmpInd_raised
    rw [resolveIndirect, busReadPair, hlo, andThen_ok, hhi, andThen_raised]

end Sys2Proof.Proofs

/-! The reset and hazards family (spec/70_reset_and_hazards.md): the reset signal. -/

namespace Sys2Proof.Proofs

open Sys2Proof Sys2Proof.Machine

/-- Settles O47: the vector is two reads of program ROM, which change nothing and cannot raise (R380), so all the reset
signal writes is the baseline and pc. -/
theorem resetSetsTheBaselineOnly : Obligations.ResetSetsTheBaselineOnly :=
  fun _ hvec hbase => resetSignal_eq hvec hbase

end Sys2Proof.Proofs
